-- ==== Sys2Proof/Word.lean ====
section
/-! DEFINITION. The word types of the TPE: host registers and command words are 32 bits wide
(spec/10_state.md R14, R15), bytes on the SPI bus are 8 bits wide (spec/00_scope.md R10). -/

namespace Sys2Proof

/-- A byte on the SPI bus, or an 8-bit field of a command word (30_encoding.md R46). -/
abbrev Byte := BitVec 8

/-- A host register, a command word, or a timestamp in its low `TW` bits (00_scope.md R5, 10_state.md R19). -/
abbrev Word := BitVec 32

/-- A binary32 value, as its bit pattern with the sign in bit 31 (20_memory.md R38). -/
abbrev Fp := BitVec 32

end Sys2Proof
end

