-- ==== Sys2Proof/Syntax.lean ====
section
/-! DEFINITION. The command set (spec/30_encoding.md): one constructor of `Instr` per row of
spec/opcode_table.json, with the operands R46 to R51 give it. -/

namespace Sys2Proof

/-- ProbeType, in DOC's declaration order (R48). -/
inductive ProbeType where
  | none | tcK | tcJ | tcT | rtd2W | rtd3W
  deriving DecidableEq, Repr

/-- The chip operand `A[0]` (R49). -/
inductive Chip where
  | rtd | tc
  deriving DecidableEq, Repr

/-- The fault-cycle operand (R50). -/
inductive FaultCycle where
  | none | auto | manualRun | manualFinish
  deriving DecidableEq, Repr

/-- The table operand of `POLY_EVAL` (R51). -/
inductive TableId where
  | fwdK | fwdJ | fwdT | invK | invJ | invT
  deriving DecidableEq, Repr

/-- A logical or physical channel (00_scope.md glossary; 43_channel_mux.md R102). -/
inductive Channel where
  | ch0 | ch1 | ch2
  deriving DecidableEq, Repr

/-- An 8-bit operand that is compared as a whole against a code table (R47): a value of the table,
or a code outside it. -/
inductive Coded (α : Type) where
  | known (a : α)
  | unknown (code : Byte)
  deriving DecidableEq, Repr

/-- The 35 commands of R52. Operands wider than 8 bits come from the latched `ARG` registers. -/
inductive Instr where
  -- bus transport (40_bus_transport.md)
  | nop
  | spiRd8 (chip : Chip) (addr : Byte)
  | spiRd16 (chip : Chip) (addr : Byte)
  | spiWr8 (chip : Chip) (addr : Byte) (value : Byte)
  | tcRd32
  -- RTD engine (41_rtd_engine.md)
  | rtdSetType (probe : Coded ProbeType)
  | rtdSetThresh
  | rtdGetLower
  | rtdGetUpper
  | rtdSetAuto (en : Bool)
  | rtdSet50Hz (en : Bool)
  | rtdSetBias (en : Bool)
  | rtdReadFault (cycle : Coded FaultCycle)
  | rtdClearFault
  | rtdRead
  | rtdReadAsync
  -- TC engine (42_tc_engine.md)
  | tcSetType (probe : Coded ProbeType)
  | tcSetFaultMask (mask : BitVec 4)
  | tcGetLastFault
  | tcSetCjOffset
  | tcDecHot
  | tcDecCold
  | tcReadVolt
  | tcReadTemp
  -- multiplexer (43_channel_mux.md)
  | muxSel (channel : Coded Channel) (probe : Coded ProbeType)
  | muxSelAsync (channel : Coded Channel) (probe : Coded ProbeType)
  -- lifecycle (44_lifecycle.md)
  | beginTc
  | beginRtd
  | beginBoth
  | endTc
  | endRtd
  | endBoth
  -- decode pipeline (45_decode_pipeline.md)
  | polyEval (table : Coded TableId)
  | rtdCalcRes
  | rtdCalcTemp
  deriving DecidableEq, Repr

end Sys2Proof
end

