-- ==== Sys2Proof/WellFormed.lean ====
section
/-! DEFINITION. Which terms of `Instr` stand for a command word: an operand's unknown code lies outside
its code table (spec/30_encoding.md R47, R48, R50, R51), so that every word has one term. -/

namespace Sys2Proof

/-- A coded operand is well formed when an unknown code is not one of the table's codes `0 .. n-1`. -/
def Coded.wf {α : Type} (n : Nat) : Coded α → Bool
  | .known _ => true
  | .unknown c => decide (n ≤ c.toNat)

/-- Number of ProbeType codes (R48). -/
def probeCodes : Nat := 6
/-- Number of fault-cycle codes (R50). -/
def cycleCodes : Nat := 4
/-- Number of table codes (R51). -/
def tableCodes : Nat := 6
/-- Number of legal channels (R47). -/
def channelCodes : Nat := 3

/-- The well-formed commands; an instruction without a coded operand always is. -/
def Instr.wf : Instr → Bool
  | .nop => true
  | .spiRd8 _ _ => true
  | .spiRd16 _ _ => true
  | .spiWr8 _ _ _ => true
  | .tcRd32 => true
  | .rtdSetType p => p.wf probeCodes
  | .rtdSetThresh => true
  | .rtdGetLower => true
  | .rtdGetUpper => true
  | .rtdSetAuto _ => true
  | .rtdSet50Hz _ => true
  | .rtdSetBias _ => true
  | .rtdReadFault c => c.wf cycleCodes
  | .rtdClearFault => true
  | .rtdRead => true
  | .rtdReadAsync => true
  | .tcSetType p => p.wf probeCodes
  | .tcSetFaultMask _ => true
  | .tcGetLastFault => true
  | .tcSetCjOffset => true
  | .tcDecHot => true
  | .tcDecCold => true
  | .tcReadVolt => true
  | .tcReadTemp => true
  | .muxSel c p => c.wf channelCodes && p.wf probeCodes
  | .muxSelAsync c p => c.wf channelCodes && p.wf probeCodes
  | .beginTc => true
  | .beginRtd => true
  | .beginBoth => true
  | .endTc => true
  | .endRtd => true
  | .endBoth => true
  | .polyEval t => t.wf tableCodes
  | .rtdCalcRes => true
  | .rtdCalcTemp => true

end Sys2Proof
end

