-- ==== Sys2Proof/Decode.lean ====
section
/-! DEFINITION. From command words to commands and back (spec/30_encoding.md R46 to R54). -/

namespace Sys2Proof

/-- Why a word is no command: its opcode is not listed in R52 (R53). -/
inductive DecodeError where
  | unassignedOpcode (opc : Byte)
  deriving DecidableEq, Repr

/-! ### Fields (R46) -/

/-- `OPC = CMD[31:24]`. -/
def opcOf (w : Word) : Byte := w.extractLsb' 24 8
/-- `A = CMD[23:16]`. -/
def fieldA (w : Word) : Byte := w.extractLsb' 16 8
/-- `B = CMD[15:8]`. -/
def fieldB (w : Word) : Byte := w.extractLsb' 8 8
/-- `C = CMD[7:0]`. -/
def fieldC (w : Word) : Byte := w.extractLsb' 0 8

/-- The word `{opc, a, b, c}`. -/
def mkWord (opc a b c : Byte) : Word := opc ++ a ++ b ++ c

/-! ### Operand codes (R47 to R51) -/

/-- `A[0]`: 0 is the RTD chip, 1 the TC chip; `A[7:1]` is ignored (R47, R49). -/
def chipOfField (a : Byte) : Chip := if a.getLsbD 0 then .tc else .rtd

/-- The enable bit `C[0]`; `C[7:1]` is ignored (R47). -/
def enOfField (c : Byte) : Bool := c.getLsbD 0

/-- The fault mask `C[3:0]`; `C[7:4]` is ignored (R47). -/
def maskOfField (c : Byte) : BitVec 4 := c.extractLsb' 0 4

/-- ProbeType codes (R48). -/
def probeOfField (b : Byte) : Coded ProbeType :=
  match b.toNat with
  | 0 => .known .none
  | 1 => .known .tcK
  | 2 => .known .tcJ
  | 3 => .known .tcT
  | 4 => .known .rtd2W
  | 5 => .known .rtd3W
  | _ => .unknown b

/-- Fault-cycle codes (R50). -/
def cycleOfField (a : Byte) : Coded FaultCycle :=
  match a.toNat with
  | 0 => .known .none
  | 1 => .known .auto
  | 2 => .known .manualRun
  | 3 => .known .manualFinish
  | _ => .unknown a

/-- Table codes (R51). -/
def tableOfField (a : Byte) : Coded TableId :=
  match a.toNat with
  | 0 => .known .fwdK
  | 1 => .known .fwdJ
  | 2 => .known .fwdT
  | 3 => .known .invK
  | 4 => .known .invJ
  | 5 => .known .invT
  | _ => .unknown a

/-- The channel field of the select commands: 0, 1 and 2 are legal (R47). -/
def channelOfField (a : Byte) : Coded Channel :=
  match a.toNat with
  | 0 => .known .ch0
  | 1 => .known .ch1
  | 2 => .known .ch2
  | _ => .unknown a

/-! ### The decoder (R52, R53) -/

/-- The command a word stands for. It is total: a word whose opcode R52 does not list is rejected by
name. The opcode alone selects the command; the fields it does not use are ignored (R47, R54). -/
def decode (w : Word) : Except DecodeError Instr :=
  match (opcOf w).toNat with
  | 0x00 => .ok .nop
  | 0x01 => .ok (.spiRd8 (chipOfField (fieldA w)) (fieldB w))
  | 0x02 => .ok (.spiRd16 (chipOfField (fieldA w)) (fieldB w))
  | 0x03 => .ok (.spiWr8 (chipOfField (fieldA w)) (fieldB w) (fieldC w))
  | 0x04 => .ok .tcRd32
  | 0x10 => .ok (.rtdSetType (probeOfField (fieldB w)))
  | 0x11 => .ok .rtdSetThresh
  | 0x12 => .ok .rtdGetLower
  | 0x13 => .ok .rtdGetUpper
  | 0x14 => .ok (.rtdSetAuto (enOfField (fieldC w)))
  | 0x15 => .ok (.rtdSet50Hz (enOfField (fieldC w)))
  | 0x16 => .ok (.rtdSetBias (enOfField (fieldC w)))
  | 0x17 => .ok (.rtdReadFault (cycleOfField (fieldA w)))
  | 0x18 => .ok .rtdClearFault
  | 0x19 => .ok .rtdRead
  | 0x1A => .ok .rtdReadAsync
  | 0x20 => .ok (.tcSetType (probeOfField (fieldB w)))
  | 0x21 => .ok (.tcSetFaultMask (maskOfField (fieldC w)))
  | 0x22 => .ok .tcGetLastFault
  | 0x23 => .ok .tcSetCjOffset
  | 0x24 => .ok .tcDecHot
  | 0x25 => .ok .tcDecCold
  | 0x26 => .ok .tcReadVolt
  | 0x27 => .ok .tcReadTemp
  | 0x30 => .ok (.muxSel (channelOfField (fieldA w)) (probeOfField (fieldB w)))
  | 0x31 => .ok (.muxSelAsync (channelOfField (fieldA w)) (probeOfField (fieldB w)))
  | 0x40 => .ok .beginTc
  | 0x41 => .ok .beginRtd
  | 0x42 => .ok .beginBoth
  | 0x43 => .ok .endTc
  | 0x44 => .ok .endRtd
  | 0x45 => .ok .endBoth
  | 0x50 => .ok (.polyEval (tableOfField (fieldA w)))
  | 0x51 => .ok .rtdCalcRes
  | 0x52 => .ok .rtdCalcTemp
  | _ => .error (.unassignedOpcode (opcOf w))

/-- The decoder as the host's tools call it: `w` holds the `nbits` bits of an opcode-table row, numbered as
the table numbers them; every command is one 32-bit word (R46), bits above `nbits` being 0. -/
def decodeTableWord (nbits w : Nat) : Option Instr :=
  if nbits ≤ 32 then
    match decode (BitVec.ofNat 32 (w % 2 ^ nbits)) with
    | .ok i => some i
    | .error _ => none
  else none

/-! ### The encoder (R46 to R52) -/

/-- The chip operand as field `A`. -/
def chipField : Chip → Byte
  | .rtd => 0
  | .tc => 1

/-- A single-bit operand as its field. -/
def bitField (b : Bool) : Byte := if b then 1 else 0

/-- The code of a ProbeType (R48). -/
def probeCode : ProbeType → Nat
  | .none => 0
  | .tcK => 1
  | .tcJ => 2
  | .tcT => 3
  | .rtd2W => 4
  | .rtd3W => 5

/-- The code of a fault cycle (R50). -/
def cycleCode : FaultCycle → Nat
  | .none => 0
  | .auto => 1
  | .manualRun => 2
  | .manualFinish => 3

/-- The code of a coefficient table (R51). -/
def tableCode : TableId → Nat
  | .fwdK => 0
  | .fwdJ => 1
  | .fwdT => 2
  | .invK => 3
  | .invJ => 4
  | .invT => 5

/-- The number of a channel. -/
def channelCode : Channel → Nat
  | .ch0 => 0
  | .ch1 => 1
  | .ch2 => 2

/-- A coded operand as its field. -/
def codedField {α : Type} (code : α → Nat) : Coded α → Byte
  | .known a => BitVec.ofNat 8 (code a)
  | .unknown c => c

/-- The word of a command, its unused bits 0 (R54: "Software should write them as zero"). -/
def encode : Instr → Word
  | .nop => mkWord 0x00 0 0 0
  | .spiRd8 chip addr => mkWord 0x01 (chipField chip) addr 0
  | .spiRd16 chip addr => mkWord 0x02 (chipField chip) addr 0
  | .spiWr8 chip addr value => mkWord 0x03 (chipField chip) addr value
  | .tcRd32 => mkWord 0x04 0 0 0
  | .rtdSetType p => mkWord 0x10 0 (codedField probeCode p) 0
  | .rtdSetThresh => mkWord 0x11 0 0 0
  | .rtdGetLower => mkWord 0x12 0 0 0
  | .rtdGetUpper => mkWord 0x13 0 0 0
  | .rtdSetAuto en => mkWord 0x14 0 0 (bitField en)
  | .rtdSet50Hz en => mkWord 0x15 0 0 (bitField en)
  | .rtdSetBias en => mkWord 0x16 0 0 (bitField en)
  | .rtdReadFault c => mkWord 0x17 (codedField cycleCode c) 0 0
  | .rtdClearFault => mkWord 0x18 0 0 0
  | .rtdRead => mkWord 0x19 0 0 0
  | .rtdReadAsync => mkWord 0x1A 0 0 0
  | .tcSetType p => mkWord 0x20 0 (codedField probeCode p) 0
  | .tcSetFaultMask m => mkWord 0x21 0 0 (m.setWidth 8)
  | .tcGetLastFault => mkWord 0x22 0 0 0
  | .tcSetCjOffset => mkWord 0x23 0 0 0
  | .tcDecHot => mkWord 0x24 0 0 0
  | .tcDecCold => mkWord 0x25 0 0 0
  | .tcReadVolt => mkWord 0x26 0 0 0
  | .tcReadTemp => mkWord 0x27 0 0 0
  | .muxSel c p => mkWord 0x30 (codedField channelCode c) (codedField probeCode p) 0
  | .muxSelAsync c p => mkWord 0x31 (codedField channelCode c) (codedField probeCode p) 0
  | .beginTc => mkWord 0x40 0 0 0
  | .beginRtd => mkWord 0x41 0 0 0
  | .beginBoth => mkWord 0x42 0 0 0
  | .endTc => mkWord 0x43 0 0 0
  | .endRtd => mkWord 0x44 0 0 0
  | .endBoth => mkWord 0x45 0 0 0
  | .polyEval t => mkWord 0x50 (codedField tableCode t) 0 0
  | .rtdCalcRes => mkWord 0x51 0 0 0
  | .rtdCalcTemp => mkWord 0x52 0 0 0

/-- The bits of its word that a command reads; the others are reserved-ignored (R47, R52, R54). -/
def Instr.usedBits : Instr → Word
  | .nop => 0xFF000000
  | .spiRd8 _ _ => 0xFF01FF00
  | .spiRd16 _ _ => 0xFF01FF00
  | .spiWr8 _ _ _ => 0xFF01FFFF
  | .tcRd32 => 0xFF000000
  | .rtdSetType _ => 0xFF00FF00
  | .rtdSetThresh => 0xFF000000
  | .rtdGetLower => 0xFF000000
  | .rtdGetUpper => 0xFF000000
  | .rtdSetAuto _ => 0xFF000001
  | .rtdSet50Hz _ => 0xFF000001
  | .rtdSetBias _ => 0xFF000001
  | .rtdReadFault _ => 0xFFFF0000
  | .rtdClearFault => 0xFF000000
  | .rtdRead => 0xFF000000
  | .rtdReadAsync => 0xFF000000
  | .tcSetType _ => 0xFF00FF00
  | .tcSetFaultMask _ => 0xFF00000F
  | .tcGetLastFault => 0xFF000000
  | .tcSetCjOffset => 0xFF000000
  | .tcDecHot => 0xFF000000
  | .tcDecCold => 0xFF000000
  | .tcReadVolt => 0xFF000000
  | .tcReadTemp => 0xFF000000
  | .muxSel _ _ => 0xFFFFFF00
  | .muxSelAsync _ _ => 0xFFFFFF00
  | .beginTc => 0xFF000000
  | .beginRtd => 0xFF000000
  | .beginBoth => 0xFF000000
  | .endTc => 0xFF000000
  | .endRtd => 0xFF000000
  | .endBoth => 0xFF000000
  | .polyEval _ => 0xFFFF0000
  | .rtdCalcRes => 0xFF000000
  | .rtdCalcTemp => 0xFF000000

end Sys2Proof
end

