-- ==== Sys2Proof/Config.lean ====
section
/-! DEFINITION. The configuration of the TPE: one field for each implementation parameter of spec/00_scope.md
R5, and the free values, opaque constants that nothing can evaluate. The default values stand in
Machine/Rom.lean (`Params.default`). -/

namespace Sys2Proof.Config

/-! ### OPEN parameters: no value is given, so none is assumed (notes/assumptions/19.md) -/

/-- `TPE_BASE` of the default configuration (decision D2). -/
opaque tpeBase : Nat
/-- `T_MANUAL_FAULT` of the default configuration (decision D48). -/
opaque tManualFault : Nat

/-! ### Free values: the spec leaves them open (93_implementation_defined.md U1, U2, U3) -/

/-- The `n`-th MISO byte ever sampled, where the script `misoIn` has no byte for it (U1). -/
opaque freeMiso : Nat → Byte
/-- The level of `pin.MOSI` after the `n`-th sampled byte, between transactions (U3). -/
opaque freeMosi : Nat → Bool
/-- `now` at reset (U2, 10_state.md R30), of which the low `TW` bits are taken. -/
opaque nowAtReset : Word
/-- The level of the `REVERSE` input at reset: an input, to which no rule gives a value. -/
opaque reverseAtReset : Bool
/-- `exp` of an operand for which Machine/Fp.lean's interval does not decide the rounding
(notes/assumptions/15.md). -/
opaque expUndecided : Word → Word

end Sys2Proof.Config

namespace Sys2Proof

/-- A segment of a polynomial table (10_state.md R27): the upper bound, and the coefficients from low to high
power, possibly none. -/
structure Segment where
  bound : Fp
  coeffs : List Fp
  deriving DecidableEq, Repr

end Sys2Proof

namespace Sys2Proof.Machine

/-- The arithmetic of the decode pipeline (`FP` of 00_scope.md R5). The one value is the one the rules are written for:
R11 gives the encoding of NaN in 32 bits, and an `FP` operand or result is one 32-bit register (20_memory.md R38). -/
inductive FpFormat where
  /-- IEEE-754 binary32, round to nearest even -/
  | binary32NearestEven
  deriving DecidableEq, Repr

/-- The implementation parameters (00_scope.md R5). notes/assumptions/10.md says which values they range over. -/
structure Params where
  /-- `TW`, at most 32: a timestamp view is `zext_32` of `TW` bits (10_state.md R19) -/
  tw : Nat
  /-- `NCH`, at most 3: there are three select lines (10_state.md R22, R28) -/
  nch : Nat
  /-- `RTD_SCLK_HZ` -/
  rtdSclkHz : Nat
  /-- `RTD_SPI_MODE` -/
  rtdSpiMode : Nat
  /-- `TC_SCLK_HZ` -/
  tcSclkHz : Nat
  /-- `TC_SPI_MODE` -/
  tcSpiMode : Nat
  /-- `FILL` -/
  fill : Byte
  /-- `T_BIAS` -/
  tBias : Nat
  /-- `T_CONV_60` -/
  tConv60 : Nat
  /-- `T_CONV_50` -/
  tConv50 : Nat
  /-- `T_AUTO_60` -/
  tAuto60 : Nat
  /-- `T_AUTO_50` -/
  tAuto50 : Nat
  /-- `T_FAULT_AUTO` -/
  tFaultAuto : Nat
  /-- `T_SETTLE_TC` -/
  tSettleTc : Nat
  /-- `T_SETTLE_RTD` -/
  tSettleRtd : Nat
  /-- `RTD_A` -/
  rtdA : Fp
  /-- `RTD_B` -/
  rtdB : Fp
  /-- `RTD_FULL` -/
  rtdFull : Fp
  /-- `RTD_SUB[0..5]` (45_decode_pipeline.md R129) -/
  rtdSub : List Fp
  /-- `TC_HOT_LSB` -/
  tcHotLsb : Fp
  /-- `TC_COLD_LSB` -/
  tcColdLsb : Fp
  /-- `TC_CJ_OFFSET_RESET` -/
  tcCjOffsetReset : Fp
  /-- `TC_SEEBECK` -/
  tcSeebeck : Fp
  /-- `K_EXP_A0` -/
  kExpA0 : Fp
  /-- `K_EXP_A1` -/
  kExpA1 : Fp
  /-- `K_EXP_A2` -/
  kExpA2 : Fp
  /-- `TC_ABSENT` -/
  tcAbsent : Word
  /-- `TC_FAULT_MASK_RESET` -/
  tcFaultMaskReset : BitVec 4
  /-- `ROUTE_RTD_LEVEL` -/
  routeRtdLevel : Bool
  /-- `RTD_ADDR_CONFIG` (41_rtd_engine.md R68) -/
  rtdAddrConfig : Byte
  /-- `RTD_ADDR_RTD_MSB` -/
  rtdAddrRtdMsb : Byte
  /-- `RTD_ADDR_HFT_MSB` -/
  rtdAddrHftMsb : Byte
  /-- `RTD_ADDR_HFT_LSB` -/
  rtdAddrHftLsb : Byte
  /-- `RTD_ADDR_LFT_MSB` -/
  rtdAddrLftMsb : Byte
  /-- `RTD_ADDR_LFT_LSB` -/
  rtdAddrLftLsb : Byte
  /-- `RTD_ADDR_FAULT` -/
  rtdAddrFault : Byte
  /-- `CFG_BIAS`, persistent (41_rtd_engine.md R69) -/
  cfgBias : Byte
  /-- `CFG_AUTO`, persistent -/
  cfgAuto : Byte
  /-- `CFG_ONESHOT`, a strobe -/
  cfgOneshot : Byte
  /-- `CFG_WIRE3`, persistent -/
  cfgWire3 : Byte
  /-- `CFG_FCYC`, a strobe field; the fault-cycle bytes of R70 carry it -/
  cfgFcyc : Byte
  /-- `CFG_FCLEAR`, a strobe -/
  cfgFclear : Byte
  /-- `CFG_FILTER50`, persistent -/
  cfgFilter50 : Byte
  /-- `FLT_KEEP` (41_rtd_engine.md R70) -/
  fltKeep : Byte
  /-- `FLT_TRIG[Auto]` -/
  fltTrigAuto : Byte
  /-- `FLT_TRIG[ManualRun]` -/
  fltTrigManualRun : Byte
  /-- `FLT_TRIG[ManualFinish]` -/
  fltTrigManualFinish : Byte
  /-- `POLY_ROM` (10_state.md R27): `FWD_K` -/
  fwdK : List Segment
  /-- `FWD_J` -/
  fwdJ : List Segment
  /-- `FWD_T` -/
  fwdT : List Segment
  /-- `INV_K` -/
  invK : List Segment
  /-- `INV_J` -/
  invJ : List Segment
  /-- `INV_T` -/
  invT : List Segment
  /-- `T_MANUAL_FAULT`, the delay a program owes between `ManualRun` and `ManualFinish`; not checked -/
  tManualFault : Nat
  /-- `TPE_BASE`, the platform's base address of the register block; host accesses are given as offsets -/
  tpeBase : Nat
  /-- `ASYNC_RESTORE_BIAS` -/
  asyncRestoreBias : Bool
  /-- `FP` -/
  fp : FpFormat
  deriving DecidableEq, Repr

/-- `CFG_PERSIST`, the bits the mirror `s.cfg` may hold (41_rtd_engine.md R69). -/
def Params.cfgPersist (p : Params) : Byte := p.cfgBias ||| p.cfgAuto ||| p.cfgWire3 ||| p.cfgFilter50

end Sys2Proof.Machine
end

