-- ==== Sys2Proof/Machine/Fp.lean ====
section
/-! DEFINITION. The `FP` arithmetic of the decode pipeline: IEEE-754 binary32, round to nearest even,
one rounding per operation (spec/00_scope.md R11, spec/45_decode_pipeline.md R119). A value is held
as its bit pattern; every NaN result is `NaN_BITS`. Each operation is computed exactly on integers
(or with a sticky bit below the rounding point) and rounded once by `Fp.round`. -/

namespace Sys2Proof

/-- What a bit pattern stands for: NaN, an infinity, or the finite value `(-1)^neg * m * 2^e`. -/
inductive Fp.Unpacked where
  | nan
  | inf (neg : Bool)
  | fin (neg : Bool) (m : Nat) (e : Int)
  deriving DecidableEq, Repr

/-- `NaN_BITS` (R11). -/
def Fp.nan : Fp := 0x7FC00000#32

/-- The sign bit. -/
def Fp.sign (x : Fp) : Bool := x.msb
/-- The biased exponent field, bits 30:23. -/
def Fp.expField (x : Fp) : Nat := x.toNat / 2 ^ 23 % 2 ^ 8
/-- The fraction field, bits 22:0. -/
def Fp.fracField (x : Fp) : Nat := x.toNat % 2 ^ 23
/-- The bits below the sign, as a number; it grows with the magnitude of a non-NaN value. -/
def Fp.magnitude (x : Fp) : Nat := x.toNat % 2 ^ 31

/-- Whether the pattern is a NaN. -/
def Fp.isNaN (x : Fp) : Bool := decide (0x7F800000 < x.magnitude)

/-- Reading a bit pattern. -/
def Fp.unpack (x : Fp) : Fp.Unpacked :=
  if x.expField = 255 then
    if x.fracField = 0 then .inf x.sign else .nan
  else if x.expField = 0 then .fin x.sign x.fracField (-149)
  else .fin x.sign (2 ^ 23 + x.fracField) ((x.expField : Int) - 150)

/-- A pattern from its sign and the 31 bits below it. -/
def Fp.ofMagnitude (neg : Bool) (mag : Nat) : Fp :=
  BitVec.ofNat 32 ((if neg then 2 ^ 31 else 0) + mag)

/-- A signed zero. -/
def Fp.zero (neg : Bool) : Fp := Fp.ofMagnitude neg 0
/-- A signed infinity. -/
def Fp.inf (neg : Bool) : Fp := Fp.ofMagnitude neg 0x7F800000

/-- `m / 2^k` rounded to the nearest integer, ties to even. -/
def Fp.shiftRne (m k : Nat) : Nat :=
  let q := m / 2 ^ k
  let r := m % 2 ^ k
  if 2 ^ k < 2 * r then q + 1
  else if 2 * r = 2 ^ k then q + q % 2
  else q

/-- `(-1)^neg * m * 2^e` rounded to nearest even. `q` is the exponent of the result's last place: 24
bits of significand, but never below the subnormal exponent -149. The rounded significand `n` and the exponent
then make the magnitude bits by one addition, a carry out of the significand included; a magnitude of
infinity or more is infinity. -/
def Fp.round (neg : Bool) (m : Nat) (e : Int) : Fp :=
  if m = 0 then Fp.zero neg
  else
    let q : Int := max ((m.log2 : Int) + e - 23) (-149)
    let n : Nat := if q ≤ e then m * 2 ^ (e - q).toNat else Fp.shiftRne m (q - e).toNat
    Fp.ofMagnitude neg (min ((q + 149).toNat * 2 ^ 23 + n) 0x7F800000)

/-- A rational `(-1)^neg * num / den * 2^e` rounded to nearest even, for `den ≠ 0`: the quotient is taken to
64 bits more than `den` has, and a remainder is kept as a sticky last bit. -/
def Fp.roundQuotient (neg : Bool) (num den : Nat) (e : Int) : Fp :=
  let k := den.log2 + 64
  let q := num * 2 ^ k / den
  let sticky := if num * 2 ^ k % den = 0 then 0 else 1
  Fp.round neg (2 * q + sticky) (e - k - 1)

/-- `f32` of an integer (R119; exact for the integers the TPE converts). -/
def Fp.ofInt (n : Int) : Fp := Fp.round (decide (n < 0)) n.natAbs 0

/-- `f32` of the decimal literal `(-1)^neg * digits * 10^exp10` (R119). -/
def Fp.ofDecimal (neg : Bool) (digits : Nat) (exp10 : Int) : Fp :=
  if 0 ≤ exp10 then Fp.round neg (digits * 10 ^ exp10.toNat) 0
  else Fp.roundQuotient neg digits (10 ^ (-exp10).toNat) 0

/-- Reading an `ARG` register as an `FP` value: every NaN pattern is the one NaN (R11; 93 U14). -/
def Fp.ofBits (w : Word) : Fp := if Fp.isNaN w then Fp.nan else w

/-- The value with its sign turned over. -/
def Fp.neg (x : Fp) : Fp := x ^^^ 0x80000000#32

/-- The integer `±m * 2^k`. -/
def Fp.signed (neg : Bool) (m k : Nat) : Int := if neg then -((m * 2 ^ k : Nat) : Int) else ((m * 2 ^ k : Nat) : Int)

/-- `x + y`. The operands are brought to the smaller exponent and added exactly; an exact sum of zero is
`+0`, but for two negative zeros. -/
def Fp.add (x y : Fp) : Fp :=
  match x.unpack, y.unpack with
  | .nan, _ => Fp.nan
  | _, .nan => Fp.nan
  | .inf a, .inf b => if a = b then Fp.inf a else Fp.nan
  | .inf a, .fin _ _ _ => Fp.inf a
  | .fin _ _ _, .inf b => Fp.inf b
  | .fin a m e, .fin b n f =>
    let g := min e f
    let sum := Fp.signed a m (e - g).toNat + Fp.signed b n (f - g).toNat
    if sum = 0 then Fp.zero (a && b) else Fp.round (decide (sum < 0)) sum.natAbs g

/-- `x - y`. -/
def Fp.sub (x y : Fp) : Fp := Fp.add x (Fp.neg y)

/-- `x * y`. -/
def Fp.mul (x y : Fp) : Fp :=
  match x.unpack, y.unpack with
  | .nan, _ => Fp.nan
  | _, .nan => Fp.nan
  | .inf a, .inf b => Fp.inf (a ^^ b)
  | .inf a, .fin b n _ => if n = 0 then Fp.nan else Fp.inf (a ^^ b)
  | .fin a m _, .inf b => if m = 0 then Fp.nan else Fp.inf (a ^^ b)
  | .fin a m e, .fin b n f => Fp.round (a ^^ b) (m * n) (e + f)

/-- `x / y`. -/
def Fp.div (x y : Fp) : Fp :=
  match x.unpack, y.unpack with
  | .nan, _ => Fp.nan
  | _, .nan => Fp.nan
  | .inf _, .inf _ => Fp.nan
  | .inf a, .fin b _ _ => Fp.inf (a ^^ b)
  | .fin a _ _, .inf b => Fp.zero (a ^^ b)
  | .fin a m e, .fin b n f =>
    if n = 0 then (if m = 0 then Fp.nan else Fp.inf (a ^^ b))
    else Fp.roundQuotient (a ^^ b) m n (e - f)

/-- The integer square root of `n` below `2^k` above `r`, bit by bit from bit `k - 1` down. -/
def Fp.isqrtFrom (n : Nat) : Nat → Nat → Nat
  | 0, r => r
  | k + 1, r =>
    let r' := r + 2 ^ k
    if r' * r' ≤ n then Fp.isqrtFrom n k r' else Fp.isqrtFrom n k r

/-- `sqrt x`: the significand is scaled to an even exponent and 64 more bits, and a remainder is kept as a
sticky last bit. `sqrt` of a zero is that zero; of any other negative value it is NaN. -/
def Fp.sqrt (x : Fp) : Fp :=
  match x.unpack with
  | .nan => Fp.nan
  | .inf a => if a then Fp.nan else Fp.inf false
  | .fin a m e =>
    if m = 0 then x
    else if a then Fp.nan
    else
      let odd : Nat := (e % 2).toNat
      let n := m * 2 ^ (64 + odd)
      let r := Fp.isqrtFrom n 45 0
      let sticky := if r * r = n then 0 else 1
      Fp.round false (2 * r + sticky) ((e - (odd : Int)) / 2 - 33)

/-! ### exp, correctly rounded

`exp` of a nonzero finite value is irrational, so it is never a tie; an interval that holds it and whose
two ends round to one value gives the correctly rounded result. All numbers are scaled by `2^256`. -/

/-- The scale of the interval arithmetic. -/
def Fp.expScale : Nat := 2 ^ 256

/-- Division rounded up. -/
def Fp.ceilDiv (a b : Nat) : Nat := (a + b - 1) / b

/-- Lower and upper sums of the Taylor series of `e^r`, `r = R / scale < 1`: `fuel` more terms from term
number `n`, whose bounds are `lo` and `hi`. -/
def Fp.taylor (R : Nat) : Nat → Nat → Nat × Nat → Nat × Nat → Nat × Nat
  | 0, _, _, sum => sum
  | fuel + 1, n, term, sum =>
    let lo := term.1 * R / (Fp.expScale * n)
    let hi := Fp.ceilDiv (term.2 * R) (Fp.expScale * n)
    Fp.taylor R fuel (n + 1) (lo, hi) (sum.1 + lo, sum.2 + hi)

/-- Squaring an interval `k` times. -/
def Fp.squareTimes : Nat → Nat × Nat → Nat × Nat
  | 0, i => i
  | k + 1, i =>
    Fp.squareTimes k (i.1 * i.1 / Fp.expScale, Fp.ceilDiv (i.2 * i.2) Fp.expScale)

/-- Bounds of `e^y` for `y = Y / 2^256`, `0 ≤ y ≤ 104`: `e^(y/256)` by 64 Taylor terms, whose rest is below one
unit of the scale, squared 8 times. -/
def Fp.expBounds (Y : Nat) : Nat × Nat :=
  let s := Fp.taylor (Y / 256 + 1) 64 1 (Fp.expScale, Fp.expScale) (Fp.expScale, Fp.expScale)
  let sLow := Fp.taylor (Y / 256) 64 1 (Fp.expScale, Fp.expScale) (Fp.expScale, Fp.expScale)
  Fp.squareTimes 8 (sLow.1, s.2 + 1)

/-- `exp x`, correctly rounded (R11). Past ±104 the result overflows or rounds to zero. The last case, an
interval that does not decide the rounding, is a free value (notes/assumptions/15.md). -/
def Fp.exp (x : Fp) : Fp :=
  match x.unpack with
  | .nan => Fp.nan
  | .inf a => if a then Fp.zero false else Fp.inf false
  | .fin a m e =>
    if 104 * 2 ^ 149 < m * 2 ^ (e + 149).toNat then (if a then Fp.zero false else Fp.inf false)
    else
      let b := Fp.expBounds (m * 2 ^ (e + 256).toNat)
      let lo := if a then Fp.expScale * Fp.expScale / b.2 else b.1
      let hi := if a then Fp.ceilDiv (Fp.expScale * Fp.expScale) b.1 else b.2
      if Fp.round false lo (-256) = Fp.round false hi (-256) then Fp.round false lo (-256)
      else Config.expUndecided x

/-! ### Comparisons: false on a NaN, and `-0 = +0` (R11) -/

/-- An integer that orders the values that are not NaN. -/
def Fp.key (x : Fp) : Int := if x.sign then -(x.magnitude : Int) else (x.magnitude : Int)

/-- `x > y`. -/
def Fp.gt (x y : Fp) : Bool := !x.isNaN && !y.isNaN && decide (y.key < x.key)

/-- `x ≥ y`. -/
def Fp.ge (x y : Fp) : Bool := !x.isNaN && !y.isNaN && decide (y.key ≤ x.key)

end Sys2Proof
end

