-- ==== Sys2Proof/Machine/Rom.lean ====
section
/-! DEFINITION. The constants of the decode pipeline and the coefficient ROM (spec/10_state.md R27,
spec/45_decode_pipeline.md R119, R122 to R129), each the binary32 rounding of the decimal literal the
spec lists: `.ofDecimal neg digits exp10` is `f32((-1)^neg * digits * 10^exp10)`. The coefficients and
bounds are general knowledge in the spec: PRESUMED, notes/assumptions/12.md. -/

namespace Sys2Proof

/-! ### Constants (R5, R119) -/

/-- `RTD_A`, 3.9083e-3. -/
def Rom.rtdA : Fp := .ofDecimal false 39083 (-7)
/-- `RTD_B`, -5.775e-7. -/
def Rom.rtdB : Fp := .ofDecimal true 5775 (-10)
/-- `RTD_FULL`, 32768. -/
def Rom.rtdFull : Fp := .ofDecimal false 32768 0
/-- `TC_HOT_LSB`, 0.25. -/
def Rom.tcHotLsb : Fp := .ofDecimal false 25 (-2)
/-- `TC_COLD_LSB`, 0.0625. -/
def Rom.tcColdLsb : Fp := .ofDecimal false 625 (-4)
/-- `TC_SEEBECK`, 0.041276. -/
def Rom.tcSeebeck : Fp := .ofDecimal false 41276 (-6)
/-- `K_EXP_A0`, 0.1185976. -/
def Rom.kExpA0 : Fp := .ofDecimal false 1185976 (-7)
/-- `K_EXP_A1`, -0.0001183432. -/
def Rom.kExpA1 : Fp := .ofDecimal true 1183432 (-10)
/-- `K_EXP_A2`, 126.9686. -/
def Rom.kExpA2 : Fp := .ofDecimal false 1269686 (-4)
/-- `TC_CJ_OFFSET_RESET`, 2.10. -/
def Rom.tcCjOffsetReset : Fp := .ofDecimal false 210 (-2)
/-- 2.0, 4.0 and 100.0 of R131. -/
def Rom.two : Fp := .ofDecimal false 2 0
/-- 4.0. -/
def Rom.four : Fp := .ofDecimal false 4 0
/-- 100.0. -/
def Rom.hundred : Fp := .ofDecimal false 100 0
/-- 1.0, the zeroth power in R120. -/
def Rom.one : Fp := .ofDecimal false 1 0

/-! ### Tables (R27) -/

/-- `K_FN`: coefficients `c0..c10` of R123. -/
def Rom.fwdK_FN : List Fp :=
  [.ofDecimal false 0 0,
   .ofDecimal false 39450128025 (-12),
   .ofDecimal false 23622373598 (-15),
   .ofDecimal true 32858906784 (-17),
   .ofDecimal true 49904828777 (-19),
   .ofDecimal true 67509059173 (-21),
   .ofDecimal true 57410327428 (-23),
   .ofDecimal true 31088872894 (-25),
   .ofDecimal true 10451609365 (-27),
   .ofDecimal true 19889266878 (-30),
   .ofDecimal true 16322697486 (-33)]

/-- `K_FP`: coefficients `c0..c9` of R123. -/
def Rom.fwdK_FP : List Fp :=
  [.ofDecimal true 17600413686 (-12),
   .ofDecimal false 38921204975 (-12),
   .ofDecimal false 18558770032 (-15),
   .ofDecimal true 99457592874 (-18),
   .ofDecimal false 31840945719 (-20),
   .ofDecimal true 56072844889 (-23),
   .ofDecimal false 56075059059 (-26),
   .ofDecimal true 32020720003 (-29),
   .ofDecimal false 97151147152 (-33),
   .ofDecimal true 12104721275 (-36)]

/-- `FWD_K` (R123). -/
def Rom.fwdK : List Segment :=
  [⟨.ofDecimal true 270 0, []⟩,
   ⟨.ofDecimal false 0 0, Rom.fwdK_FN⟩,
   ⟨.ofDecimal false 1372 0, Rom.fwdK_FP⟩,
   ⟨Fp.inf false, []⟩]

/-- `J_F1`: coefficients `c0..c8` of R124. -/
def Rom.fwdJ_F1 : List Fp :=
  [.ofDecimal false 0 0,
   .ofDecimal false 50381187815 (-12),
   .ofDecimal false 30475836930 (-15),
   .ofDecimal true 85681065720 (-18),
   .ofDecimal false 13228195295 (-20),
   .ofDecimal true 17052958337 (-23),
   .ofDecimal false 20948090697 (-26),
   .ofDecimal true 12538395336 (-29),
   .ofDecimal false 15631725697 (-33)]

/-- `J_F2`: coefficients `c0..c5` of R124. -/
def Rom.fwdJ_F2 : List Fp :=
  [.ofDecimal false 29645625681 (-8),
   .ofDecimal true 14976127786 (-10),
   .ofDecimal false 31787103924 (-13),
   .ofDecimal true 31847686701 (-16),
   .ofDecimal false 15720819004 (-19),
   .ofDecimal true 30691369056 (-23)]

/-- `FWD_J` (R124). -/
def Rom.fwdJ : List Segment :=
  [⟨.ofDecimal true 210 0, []⟩,
   ⟨.ofDecimal false 760 0, Rom.fwdJ_F1⟩,
   ⟨.ofDecimal false 1200 0, Rom.fwdJ_F2⟩,
   ⟨Fp.inf false, []⟩]

/-- `T_FN`: coefficients `c0..c14` of R125. -/
def Rom.fwdT_FN : List Fp :=
  [.ofDecimal false 0 0,
   .ofDecimal false 38748106364 (-12),
   .ofDecimal false 44194434347 (-15),
   .ofDecimal false 11844323105 (-17),
   .ofDecimal false 20032973554 (-18),
   .ofDecimal false 90138019559 (-20),
   .ofDecimal false 22651156593 (-21),
   .ofDecimal false 36071154205 (-23),
   .ofDecimal false 38493939883 (-25),
   .ofDecimal false 28213521925 (-27),
   .ofDecimal false 14251594779 (-29),
   .ofDecimal false 48768662286 (-32),
   .ofDecimal false 10795539270 (-34),
   .ofDecimal false 13945027062 (-37),
   .ofDecimal false 79795153927 (-41)]

/-- `T_FP`: coefficients `c0..c8` of R125. -/
def Rom.fwdT_FP : List Fp :=
  [.ofDecimal false 0 0,
   .ofDecimal false 38748106364 (-12),
   .ofDecimal false 33292227880 (-15),
   .ofDecimal false 20618243404 (-17),
   .ofDecimal true 21882256846 (-19),
   .ofDecimal false 10996880928 (-21),
   .ofDecimal true 30815758772 (-24),
   .ofDecimal false 45479135290 (-27),
   .ofDecimal true 27512901673 (-30)]

/-- `FWD_T` (R125). -/
def Rom.fwdT : List Segment :=
  [⟨.ofDecimal true 270 0, []⟩,
   ⟨.ofDecimal false 0 0, Rom.fwdT_FN⟩,
   ⟨.ofDecimal false 400 0, Rom.fwdT_FP⟩,
   ⟨Fp.inf false, []⟩]

/-- `K_IN`: coefficients `c0..c8` of R126. -/
def Rom.invK_IN : List Fp :=
  [.ofDecimal false 0 0,
   .ofDecimal false 25173462 (-6),
   .ofDecimal true 11662878 (-7),
   .ofDecimal true 10833638 (-7),
   .ofDecimal true 89773540 (-8),
   .ofDecimal true 37342377 (-8),
   .ofDecimal true 86632643 (-9),
   .ofDecimal true 10450598 (-9),
   .ofDecimal true 51920577 (-11)]

/-- `K_I1`: coefficients `c0..c9` of R126. -/
def Rom.invK_I1 : List Fp :=
  [.ofDecimal false 0 0,
   .ofDecimal false 2508355 (-5),
   .ofDecimal false 7860106 (-8),
   .ofDecimal true 2503131 (-7),
   .ofDecimal false 8315270 (-8),
   .ofDecimal true 1228034 (-8),
   .ofDecimal false 9804036 (-10),
   .ofDecimal true 4413030 (-11),
   .ofDecimal false 1057734 (-12),
   .ofDecimal true 1052755 (-14)]

/-- `K_I2`: coefficients `c0..c6` of R126. -/
def Rom.invK_I2 : List Fp :=
  [.ofDecimal true 1318058 (-4),
   .ofDecimal false 4830222 (-5),
   .ofDecimal true 1646031 (-6),
   .ofDecimal false 5464731 (-8),
   .ofDecimal true 9650715 (-10),
   .ofDecimal false 8802193 (-12),
   .ofDecimal true 3110810 (-14)]

/-- `INV_K` (R126). -/
def Rom.invK : List Segment :=
  [⟨.ofDecimal true 5891 (-3), []⟩,
   ⟨.ofDecimal false 0 0, Rom.invK_IN⟩,
   ⟨.ofDecimal false 20644 (-3), Rom.invK_I1⟩,
   ⟨.ofDecimal false 54886 (-3), Rom.invK_I2⟩,
   ⟨Fp.inf false, []⟩]

/-- `J_IN`: coefficients `c0..c8` of R127. -/
def Rom.invJ_IN : List Fp :=
  [.ofDecimal false 0 0,
   .ofDecimal false 19528268 (-6),
   .ofDecimal true 12286185 (-7),
   .ofDecimal true 10752178 (-7),
   .ofDecimal true 59086933 (-8),
   .ofDecimal true 17256713 (-8),
   .ofDecimal true 28131513 (-9),
   .ofDecimal true 23963370 (-10),
   .ofDecimal true 83823321 (-12)]

/-- `J_I1`: coefficients `c0..c7` of R127. -/
def Rom.invJ_I1 : List Fp :=
  [.ofDecimal false 0 0,
   .ofDecimal false 1978425 (-5),
   .ofDecimal true 2001204 (-7),
   .ofDecimal false 1036969 (-8),
   .ofDecimal true 2549687 (-10),
   .ofDecimal false 3585153 (-12),
   .ofDecimal true 5344285 (-14),
   .ofDecimal false 5099890 (-16)]

/-- `J_I2`: coefficients `c0..c5` of R127. -/
def Rom.invJ_I2 : List Fp :=
  [.ofDecimal true 311358187 (-5),
   .ofDecimal false 300543684 (-6),
   .ofDecimal true 994773230 (-8),
   .ofDecimal false 170276630 (-9),
   .ofDecimal true 143033468 (-11),
   .ofDecimal false 473886084 (-14)]

/-- `INV_J` (R127). -/
def Rom.invJ : List Segment :=
  [⟨.ofDecimal true 8095 (-3), []⟩,
   ⟨.ofDecimal false 0 0, Rom.invJ_IN⟩,
   ⟨.ofDecimal false 42919 (-3), Rom.invJ_I1⟩,
   ⟨.ofDecimal false 69553 (-3), Rom.invJ_I2⟩,
   ⟨Fp.inf false, []⟩]

/-- `T_IN`: coefficients `c0..c7` of R128. -/
def Rom.invT_IN : List Fp :=
  [.ofDecimal false 0 0,
   .ofDecimal false 25949192 (-6),
   .ofDecimal true 21316967 (-8),
   .ofDecimal false 79018692 (-8),
   .ofDecimal false 42527777 (-8),
   .ofDecimal false 13304473 (-8),
   .ofDecimal false 20241446 (-9),
   .ofDecimal false 12668171 (-10)]

/-- `T_IP`: coefficients `c0..c6` of R128. -/
def Rom.invT_IP : List Fp :=
  [.ofDecimal false 0 0,
   .ofDecimal false 2592800 (-5),
   .ofDecimal true 7602961 (-7),
   .ofDecimal false 4637791 (-8),
   .ofDecimal true 2165394 (-9),
   .ofDecimal false 6048144 (-11),
   .ofDecimal true 7293422 (-13)]

/-- `INV_T` (R128). -/
def Rom.invT : List Segment :=
  [⟨.ofDecimal true 5603 (-3), []⟩,
   ⟨.ofDecimal false 0 0, Rom.invT_IN⟩,
   ⟨.ofDecimal false 20872 (-3), Rom.invT_IP⟩,
   ⟨Fp.inf false, []⟩]

/-- `RTD_SUB[0..5]` (R129). -/
def Rom.rtdSubCoeffs : List Fp :=
  [.ofDecimal true 24202 (-2),
   .ofDecimal false 22228 (-4),
   .ofDecimal false 25859 (-7),
   .ofDecimal true 48260 (-10),
   .ofDecimal true 28183 (-12),
   .ofDecimal false 15243 (-14)]

/-! ### The default configuration (00_scope.md R5) -/

/-- The default value of every parameter: R5, and 41_rtd_engine.md R68 to R70 (PRESUMED there,
notes/assumptions/11.md). The two OPEN ones have none. notes/assumptions/10.md. -/
def Machine.Params.default : Machine.Params where
  tw := 32
  nch := 3
  rtdSclkHz := 1000000
  rtdSpiMode := 1
  tcSclkHz := 4000000
  tcSpiMode := 0
  fill := 0x00#8
  tBias := 10
  tConv60 := 65
  tConv50 := 75
  tAuto60 := 60
  tAuto50 := 70
  tFaultAuto := 1
  tSettleTc := 150
  tSettleRtd := 75
  rtdA := Rom.rtdA
  rtdB := Rom.rtdB
  rtdFull := Rom.rtdFull
  rtdSub := Rom.rtdSubCoeffs
  tcHotLsb := Rom.tcHotLsb
  tcColdLsb := Rom.tcColdLsb
  tcCjOffsetReset := Rom.tcCjOffsetReset
  tcSeebeck := Rom.tcSeebeck
  kExpA0 := Rom.kExpA0
  kExpA1 := Rom.kExpA1
  kExpA2 := Rom.kExpA2
  tcAbsent := 0x00FFFFFF#32
  tcFaultMaskReset := 0x7#4
  routeRtdLevel := true
  rtdAddrConfig := 0x00#8
  rtdAddrRtdMsb := 0x01#8
  rtdAddrHftMsb := 0x03#8
  rtdAddrHftLsb := 0x04#8
  rtdAddrLftMsb := 0x05#8
  rtdAddrLftLsb := 0x06#8
  rtdAddrFault := 0x07#8
  cfgBias := 0x80#8
  cfgAuto := 0x40#8
  cfgOneshot := 0x20#8
  cfgWire3 := 0x10#8
  cfgFcyc := 0x0C#8
  cfgFclear := 0x02#8
  cfgFilter50 := 0x01#8
  fltKeep := 0x11#8
  fltTrigAuto := 0x84#8
  fltTrigManualRun := 0x88#8
  fltTrigManualFinish := 0x8C#8
  fwdK := Rom.fwdK
  fwdJ := Rom.fwdJ
  fwdT := Rom.fwdT
  invK := Rom.invK
  invJ := Rom.invJ
  invT := Rom.invT
  tManualFault := Config.tManualFault
  tpeBase := Config.tpeBase
  asyncRestoreBias := false
  fp := .binary32NearestEven

end Sys2Proof
end

