-- ==== Sys2Proof/Machine/State.lean ====
section
/-! DEFINITION. The state of the TPE (spec/10_state.md), its reset value (spec/70_reset_and_hazards.md
R154), and the reasons a step may stop. INVENTORY.md lists every field with its rule. -/

namespace Sys2Proof.Machine

/-- The level of a pin: 0, 1 or not driven (00_scope.md R8). -/
inductive Level where
  | low | high | z
  deriving DecidableEq, Repr

/-- The output pins of R28 that rules write. -/
inductive Pin where
  | csRtd | csTc | sel0 | sel1 | sel2 | route
  deriving DecidableEq, Repr

/-- The event trace (00_scope.md R10, R12): SPI transactions, their bus-transaction brackets, and pin writes,
in body order. Its form is a DESIGN CHOICE, notes/assumptions/16.md. -/
inductive Event where
  | busBegin (chip : Chip) (sclkHz : Nat) (spiMode : Nat)
  | pin (p : Pin) (level : Level)
  | spi (chip : Chip) (mosi : List Byte) (miso : List Byte)
  | busEnd (chip : Chip)
  deriving DecidableEq, Repr

/-- The `STATUS` bits (R16); the other bits of the word read as 0. -/
structure Status where
  busy : Bool
  done : Bool
  ok : Bool
  errIllegal : Bool
  errArg : Bool
  errInactive : Bool
  ovr : Bool
  deriving DecidableEq, Repr

/-- The command latch (R20). -/
structure Latch where
  cmd : Word
  arg0 : Word
  arg1 : Word
  arg2 : Word
  deriving DecidableEq, Repr

/-- The per-channel probe cache, indexed by logical channel (R22). -/
structure Cache where
  ch0 : ProbeType
  ch1 : ProbeType
  ch2 : ProbeType
  deriving DecidableEq, Repr

/-- `s.muxState` (R22). -/
inductive MuxState where
  | selected | switching
  deriving DecidableEq, Repr

/-- `s.rtdState` (R23). -/
inductive RtdState where
  | idle | settling | converting
  deriving DecidableEq, Repr

/-- The sequencer position (R20): where the engine stands in the body of the latched command, between two
engine steps, with the body's local variables. `label` is a point of the body named in that command's meaning.
* `idle`: no command.
* `start`: the command is accepted and no engine step of it has been taken.
* `sent label rx flag`: an `SpiXfer` of the body has been made; `rx` is the word of received bytes the body still
  needs (first byte most significant), `flag` its one Boolean local variable.
* `hold label t0 d flag`: a `Wait` or `WaitSince` holds the engine until `Elapsed(t0) >= d`. -/
inductive SeqPos where
  | idle
  | start
  | sent (label : Nat) (rx : Word) (flag : Bool)
  | hold (label : Nat) (t0 : Word) (d : Nat) (flag : Bool)
  deriving DecidableEq, Repr

/-- A host access to the register block: byte offset, width in bytes, and the word written (20_memory.md R33). -/
inductive HostOp where
  | read (off : Nat) (width : Nat)
  | write (off : Nat) (width : Nat) (v : Word)
  deriving DecidableEq, Repr

/-- One step of one agent (00_scope.md R4): the script of a run is a list of them (notes/assumptions/2.md). -/
inductive Turn where
  /-- the engine takes its next step -/
  | engine
  /-- the clock advances by 1 (R30) -/
  | clock
  /-- the host makes an access -/
  | host (op : HostOp)
  /-- the board drives `REVERSE` (R29) -/
  | board (level : Bool)
  /-- the platform drives `RST` (70_reset_and_hazards.md R153) -/
  | reset (asserted : Bool)
  /-- the host reads `STATUS` until `DONE` is 1 (`WAITDONE`, 30_encoding.md R57) -/
  | waitDone
  /-- the host reads `STATUS` and, while `OK` is 0, submits the word again (`POLL`, 30_encoding.md R57) -/
  | pollOk (w : Word)
  deriving DecidableEq, Repr

/-- Every piece of state the spec gives the TPE, its configuration, and four fields of the model's own. -/
structure State where
  /-- the implementation parameters (00_scope.md R5); no step changes them -/
  params : Params
  /-- `CMD` (R15) -/
  cmd : Word
  /-- `STATUS` (R16) -/
  status : Status
  /-- `ARG0` (R14) -/
  arg0 : Word
  /-- `ARG1` (R14) -/
  arg1 : Word
  /-- `ARG2` (R14) -/
  arg2 : Word
  /-- `RESULT` (R14) -/
  result : Word
  /-- the sequencer position (R20) -/
  seq : SeqPos
  /-- `s.latch` (R20) -/
  latch : Latch
  /-- `s.tcActive` (R21) -/
  tcActive : Bool
  /-- `s.rtdActive` (R21) -/
  rtdActive : Bool
  /-- `s.outCfg` (R21) -/
  outCfg : Bool
  /-- `s.curChannel`, a logical channel; `none` is -1 (R22) -/
  curChannel : Option Channel
  /-- `s.cache` (R22) -/
  cache : Cache
  /-- `s.sel`, bit `i` for line `SELi` (R22) -/
  sel : BitVec 3
  /-- `s.route` (R22) -/
  route : Bool
  /-- `s.muxState` (R22) -/
  muxState : MuxState
  /-- `s.muxTs` (R22) -/
  muxTs : Word
  /-- `s.cfg`, the mirror of the RTD chip's config register (R23) -/
  cfg : Byte
  /-- `s.rtdProbe` (R23) -/
  rtdProbe : ProbeType
  /-- `s.rtdState` (R23) -/
  rtdState : RtdState
  /-- `s.rtdTs` (R23) -/
  rtdTs : Word
  /-- `s.rtdAsyncBiasWasOn` (R23) -/
  rtdAsyncBiasWasOn : Bool
  /-- `s.tcProbe` (R25) -/
  tcProbe : ProbeType
  /-- `s.tcMask` (R25) -/
  tcMask : BitVec 4
  /-- `s.tcOffset`, a binary32 value (R25) -/
  tcOffset : Word
  /-- `s.tcLastFault` (R25) -/
  tcLastFault : BitVec 4
  /-- `pin.CS_RTD` (R28) -/
  csRtd : Level
  /-- `pin.CS_TC` (R28) -/
  csTc : Level
  /-- `pin.SCLK` between transactions (R28) -/
  sclk : Bool
  /-- `pin.MOSI` between transactions, unspecified (R28) -/
  mosi : Bool
  /-- the `Clock` input (R30), in the low `TW` bits -/
  now : Word
  /-- the `REVERSE` input (R29) -/
  reverse : Bool
  /-- the `RST` input (70_reset_and_hazards.md R153) -/
  rst : Bool
  /-- the event trace, oldest first (00_scope.md R10, R12) -/
  trace : List Event
  /-- the model's own: the agent steps still to come -/
  turns : List Turn
  /-- the model's own: the MISO bytes the chips answer next, in order; past its end they are `Config.freeMiso` -/
  misoIn : List Byte
  /-- the model's own: how many MISO bytes have been sampled -/
  freeCount : Nat
  /-- the model's own: the word the last host read returned -/
  hostData : Option Word
  deriving DecidableEq, Repr

/-- Why the machine stops with a fault. The TPE has none of its own: it takes no traps (60_exceptions.md R145). -/
inductive Fault where
  /-- Raised by a meaning when the sequencer position is none of its body's. No run from reset reaches such a
  state (Safety.lean, `SeqFits`); stopping there is safe. notes/assumptions/18.md. -/
  | sequencerLost
  deriving DecidableEq, Repr

/-- Why a step has no meaning. -/
inductive Refusal where
  /-- Raised by an arm of `exec` for an instruction that has no meaning yet; none is left. Safe. -/
  | notModelled (mnemonic : String)
  /-- Raised by a host access whose width is not 4 bytes (20_memory.md R33, 60_exceptions.md R140). Safe. -/
  | accessWidth
  /-- Raised by a host access whose offset is not a multiple of 4 (R33, R140). Safe. -/
  | accessAlignment
  /-- Raised by a host access beyond offset 0x3C, which belongs to the platform (R33). Safe. -/
  | accessOutside
  /-- Raised by a host access while `RST` is asserted (70_reset_and_hazards.md R153). Safe. -/
  | accessInReset
  deriving DecidableEq, Repr

/-- The outcome of a step of this machine. -/
abbrev Outcome := Host.Outcome State Fault Refusal

/-- The TPE of a configuration right after reset (70_reset_and_hazards.md R154). `now`, `reverse` and `mosi` have no
value there and are free; the model's own fields start empty. -/
def State.resetWith (p : Params) : State where
  params := p
  cmd := 0x00000000#32
  status :=
    { busy := false, done := true, ok := false, errIllegal := false, errArg := false, errInactive := false,
      ovr := false }
  arg0 := 0x00000000#32
  arg1 := 0x00000000#32
  arg2 := 0x00000000#32
  result := 0x00000000#32
  seq := .idle
  latch := { cmd := 0x00000000#32, arg0 := 0x00000000#32, arg1 := 0x00000000#32, arg2 := 0x00000000#32 }
  tcActive := false
  rtdActive := false
  outCfg := false
  curChannel := none
  cache := { ch0 := .none, ch1 := .none, ch2 := .none }
  sel := 0b000#3
  route := false
  muxState := .selected
  muxTs := 0#32
  cfg := 0x00#8
  rtdProbe := .none
  rtdState := .idle
  rtdTs := 0#32
  rtdAsyncBiasWasOn := false
  tcProbe := .none
  tcMask := p.tcFaultMaskReset
  tcOffset := p.tcCjOffsetReset
  tcLastFault := 0x0#4
  csRtd := .z
  csTc := .z
  sclk := false
  mosi := Config.freeMosi 0
  now := BitVec.ofNat 32 (Config.nowAtReset.toNat % 2 ^ p.tw)
  reverse := Config.reverseAtReset
  rst := false
  trace := []
  turns := []
  misoIn := []
  freeCount := 0
  hostData := none

/-- The TPE right after reset, in the default configuration. -/
def State.reset : State := State.resetWith Params.default

end Sys2Proof.Machine
end

