-- ==== Sys2Proof/Machine/Flags.lean ====
section
/-! DEFINITION. The flags of the TPE: the `STATUS` bits (spec/10_state.md R16, spec/60_exceptions.md R134 to
R139) and the RTD flags, which are views of the config mirror (R24). The TPE has no arithmetic condition
codes (R26). -/

namespace Sys2Proof.Machine

/-! ### STATUS -/

/-- The errors a command can end with (R8, R135 to R137). -/
inductive CmdError where
  | illegal | arg | inactive
  deriving DecidableEq, Repr

/-- Acceptance of a command: `BUSY`, not `DONE`; the outcome bits cleared, `OVR` kept (R12, R16). -/
def Status.accept (st : Status) : Status :=
  { st with busy := true, done := false, ok := false, errIllegal := false, errArg := false, errInactive := false }

/-- `finish(ok)` (R8, R12). -/
def Status.finish (ok : Bool) (st : Status) : Status :=
  { st with busy := false, done := true, ok := ok }

/-- `fail E` (R8, R134): the bit named by the error becomes 1. -/
def Status.fail (e : CmdError) (st : Status) : Status :=
  { st with
    busy := false, done := true, ok := false,
    errIllegal := st.errIllegal || decide (e = .illegal),
    errArg := st.errArg || decide (e = .arg),
    errInactive := st.errInactive || decide (e = .inactive) }

/-- A `CMD` write while `BUSY` (R139). -/
def Status.overrun (st : Status) : Status := { st with ovr := true }

/-- A host write to `STATUS`: bit 8 clears `OVR`, all other bits are ignored (R16). -/
def Status.write (v : Word) (st : Status) : Status := { st with ovr := st.ovr && !v.getLsbD 8 }

/-- The word a host read of `STATUS` returns (R16). -/
def Status.word (st : Status) : Word :=
  0#23 ++ BitVec.ofBool st.ovr ++ 0#2 ++ BitVec.ofBool st.errInactive ++ BitVec.ofBool st.errArg
    ++ BitVec.ofBool st.errIllegal ++ BitVec.ofBool st.ok ++ BitVec.ofBool st.done ++ BitVec.ofBool st.busy

/-! ### The config mirror (R24) -/

/-- Whether a byte has any bit of a mask. -/
def hasBits (b mask : Byte) : Bool := decide (b &&& mask ≠ 0#8)

/-- A byte with the bits of a mask set or cleared. -/
def putBits (b mask : Byte) (on : Bool) : Byte := if on then b ||| mask else b &&& ~~~mask

/-- `bias`. -/
def State.bias (s : State) : Bool := hasBits s.cfg s.params.cfgBias
/-- `continuous`. -/
def State.continuous (s : State) : Bool := hasBits s.cfg s.params.cfgAuto
/-- `filter50`. -/
def State.filter50 (s : State) : Bool := hasBits s.cfg s.params.cfgFilter50
/-- `wire3`. -/
def State.wire3 (s : State) : Bool := hasBits s.cfg s.params.cfgWire3

/-- `s.cfg.BIAS <- on`: writing a flag writes the mirror's bit (R24). -/
def State.setBias (on : Bool) (s : State) : State := { s with cfg := putBits s.cfg s.params.cfgBias on }
/-- `s.cfg.AUTO <- on`. -/
def State.setAuto (on : Bool) (s : State) : State := { s with cfg := putBits s.cfg s.params.cfgAuto on }
/-- `s.cfg.FILTER50 <- on`. -/
def State.setFilter50 (on : Bool) (s : State) : State := { s with cfg := putBits s.cfg s.params.cfgFilter50 on }
/-- `s.cfg.WIRE3 <- on`. -/
def State.setWire3 (on : Bool) (s : State) : State := { s with cfg := putBits s.cfg s.params.cfgWire3 on }

end Sys2Proof.Machine
end

