-- ==== Sys2Proof/Machine/Operands.lean ====
section
/-! DEFINITION. What operands select: probe families, tables, channels and their lines, the fields of a raw
TC word and of the latched `ARG` registers, and the durations that depend on them. -/

namespace Sys2Proof.Machine

/-- A probe family (00_scope.md glossary). -/
inductive Family where
  | tc | rtd
  deriving DecidableEq, Repr

/-- `Family(probe)`, undefined for `None` (43_channel_mux.md R101). -/
def familyOf : ProbeType → Option Family
  | .none => Option.none
  | .tcK => some .tc
  | .tcJ => some .tc
  | .tcT => some .tc
  | .rtd2W => some .rtd
  | .rtd3W => some .rtd

/-- `FwdTable(probe)` (42_tc_engine.md R90). -/
def Params.fwdTable (c : Params) : ProbeType → Option (List Segment)
  | .tcK => some c.fwdK
  | .tcJ => some c.fwdJ
  | .tcT => some c.fwdT
  | .none => Option.none
  | .rtd2W => Option.none
  | .rtd3W => Option.none

/-- `InvTable(probe)` (R90). -/
def Params.invTable (c : Params) : ProbeType → Option (List Segment)
  | .tcK => some c.invK
  | .tcJ => some c.invJ
  | .tcT => some c.invT
  | .none => Option.none
  | .rtd2W => Option.none
  | .rtd3W => Option.none

/-- `POLY_ROM` by table code (10_state.md R27, 30_encoding.md R51). -/
def Params.table (c : Params) : TableId → List Segment
  | .fwdK => c.fwdK
  | .fwdJ => c.fwdJ
  | .fwdT => c.fwdT
  | .invK => c.invK
  | .invJ => c.invJ
  | .invT => c.invT

/-- Whether the chip's sub-driver is active (40_bus_transport.md R64). -/
def State.chipActive (chip : Chip) (s : State) : Bool :=
  match chip with
  | .rtd => s.rtdActive
  | .tc => s.tcActive

/-- Whether the sub-driver a probe family needs is active (43_channel_mux.md R108). -/
def State.familyActive (fam : Family) (s : State) : Bool :=
  match fam with
  | .rtd => s.rtdActive
  | .tc => s.tcActive

/-! ### The multiplexer (43_channel_mux.md) -/

/-- `Phys(ch, rev)` (R102). -/
def physOf (ch : Channel) (rev : Bool) : Channel :=
  if rev then
    match ch with
    | .ch0 => .ch2
    | .ch1 => .ch1
    | .ch2 => .ch0
  else ch

/-- `OneHot(p)` (R103). -/
def oneHot (p : Channel) : BitVec 3 := 1#3 <<< channelCode p

/-- `RouteLevel(fam)` (R104). -/
def Params.routeLevel (c : Params) : Family → Bool
  | .rtd => c.routeRtdLevel
  | .tc => !c.routeRtdLevel

/-- `Settle(fam)` (R105). -/
def Params.settle (c : Params) : Family → Nat
  | .tc => c.tSettleTc
  | .rtd => c.tSettleRtd

/-- An entry of the probe cache. -/
def Cache.get (c : Cache) : Channel → ProbeType
  | .ch0 => c.ch0
  | .ch1 => c.ch1
  | .ch2 => c.ch2

/-- The probe cache with one entry written. -/
def Cache.set (c : Cache) (ch : Channel) (p : ProbeType) : Cache :=
  match ch with
  | .ch0 => { c with ch0 := p }
  | .ch1 => { c with ch1 := p }
  | .ch2 => { c with ch2 := p }

/-! ### Durations of the RTD engine (41_rtd_engine.md R72) -/

/-- `ConvTime()`. -/
def State.convTime (s : State) : Nat := if s.filter50 then s.params.tConv50 else s.params.tConv60

/-- `AutoTime()`. -/
def State.autoTime (s : State) : Nat := if s.filter50 then s.params.tAuto50 else s.params.tAuto60

/-! ### Fields -/

/-- Hot-junction code, `raw[31:18]`, two's complement (42_tc_engine.md R85). -/
def hotCode (raw : Word) : Int := (raw.extractLsb' 18 14).toInt

/-- Cold-junction code, `raw[15:4]`, two's complement (R85). -/
def coldCode (raw : Word) : Int := (raw.extractLsb' 4 12).toInt

/-- Fault flags, `raw[3:0]` (R85). -/
def faultFlags (raw : Word) : BitVec 4 := raw.extractLsb' 0 4

/-- The TC fault kinds the chip may report (R86). -/
inductive TcFault where
  | openCircuit | shortToGround | shortToSupply
  deriving DecidableEq, Repr

/-- The flag bit of a TC fault kind (R86); bit 3 has no named fault. PRESUMED, notes/assumptions/13.md: the TPE only
masks the flags, so this matters only to a reader of `s.tcLastFault`. -/
def tcFaultBit : TcFault → Nat
  | .openCircuit => 0
  | .shortToGround => 1
  | .shortToSupply => 2

/-- Whether a flag field, or `s.tcLastFault`, reports a fault kind. -/
def reportsFault (flags : BitVec 4) (k : TcFault) : Bool := flags.getLsbD (tcFaultBit k)

/-- The two bytes of a threshold, most significant first (41_rtd_engine.md R75): `lower = ARG0[15:0]`. -/
def lowerMsb (arg0 : Word) : Byte := arg0.extractLsb' 8 8
/-- `lower[7:0]`. -/
def lowerLsb (arg0 : Word) : Byte := arg0.extractLsb' 0 8
/-- `upper[15:8]`, `upper = ARG0[31:16]`. -/
def upperMsb (arg0 : Word) : Byte := arg0.extractLsb' 24 8
/-- `upper[7:0]`. -/
def upperLsb (arg0 : Word) : Byte := arg0.extractLsb' 16 8

/-- `raw15 = ARG0[14:0]`, the RTD code the pipeline converts (45_decode_pipeline.md R132). -/
def raw15 (arg0 : Word) : Nat := (arg0.extractLsb' 0 15).toNat

/-! ### What a body reads out of the received word `rx` (40_bus_transport.md R59, R60, R62) -/

/-- `m[1]` of a 2-byte transfer. -/
def rxByte (rx : Word) : Byte := rx.extractLsb' 0 8

/-- `{m[1], m[2]}` of a 3-byte transfer. -/
def rxHalf (rx : Word) : BitVec 16 := rx.extractLsb' 0 16

/-- `raw >> 1`: the fault bit 0 of an RTD sample is discarded (41_rtd_engine.md R83). -/
def rtdCode (rx : Word) : Word := (rxHalf rx >>> 1).setWidth 32

/-- The byte a fault cycle writes to the config register (41_rtd_engine.md R70), from its trigger value. -/
def Params.faultByte (c : Params) (cfg trig : Byte) : Byte := (cfg &&& c.fltKeep) ||| trig

end Sys2Proof.Machine
end

