-- ==== Sys2Proof/Machine/Ops.lean ====
section
/-! DEFINITION. The named operations every meaning is made of: completion of a command (finish, fail: the
TPE takes no traps, so `fail` is its one way of raising an error), time, the SPI transfer, the config
write, the multiplexer setup, the shared-output handle, and acceptance, host accesses and reset. -/

namespace Sys2Proof.Machine

/-! ### Completion (spec/00_scope.md R8, R12; spec/60_exceptions.md R134) -/

/-- `finish(ok)`: the command ends and the sequencer is at "no command". -/
def State.finish (ok : Bool) (s : State) : State :=
  { s with status := s.status.finish ok, seq := .idle }

/-- `fail E`: the command ends with an error; `RESULT` and engine state are unchanged. -/
def State.fail (e : CmdError) (s : State) : State :=
  { s with status := s.status.fail e, seq := .idle }

/-- `R[RESULT] <- v; finish(1)`. -/
def State.finishWith (v : Word) (s : State) : State :=
  { s with result := v, status := s.status.finish true, seq := .idle }

/-! ### Time (R9) -/

/-- `Elapsed(t0)`, an unsigned `TW`-bit difference. -/
def State.elapsed (s : State) (t0 : Word) : Nat := (s.now - t0).toNat % 2 ^ s.params.tw

/-- The entry of a wait that holds, at a point of a body: the start time is taken and the engine holds. -/
def State.wait (label d : Nat) (flag : Bool) (s : State) : State :=
  { s with seq := .hold label s.now d flag }

/-- `Wait(d)` at a point of a body, `go` being the state after the actions behind it: `Wait(0)` completes without
holding, so that they are part of this step, and any other wait is entered. -/
def State.waitThen (s : State) (label d : Nat) (flag : Bool) (go : State) : State :=
  if d = 0 then go else s.wait label d flag

/-- An engine step while a wait holds: it goes on when the time has come and otherwise changes nothing. -/
def whenElapsed (t0 : Word) (d : Nat) (s : State) (go : State) : Outcome :=
  if d ≤ s.elapsed t0 then .next go else .next s

/-! ### The SPI transfer (R10) -/

/-- `n` MISO bytes: those of the script, and past its end the free ones from number `k` on. -/
def misoBytes : Nat → Nat → List Byte → List Byte
  | 0, _, _ => []
  | n + 1, k, [] => Config.freeMiso k :: misoBytes n (k + 1) []
  | n + 1, k, b :: q => b :: misoBytes n (k + 1) q

/-- The oracle's answer to the next transaction of `n` bytes. -/
def State.miso (s : State) (n : Nat) : List Byte := misoBytes n s.freeCount s.misoIn

/-- Bytes as one word, the first most significant (20_memory.md R37). -/
def rxWord (bytes : List Byte) : Word := bytes.foldl (fun acc b => (acc <<< 8) ||| b.setWidth 32) 0#32

/-- The chip-select pin of a chip. -/
def csPin : Chip → Pin
  | .rtd => .csRtd
  | .tc => .csTc

/-- The bus speed of a chip (40_bus_transport.md R58). -/
def Params.sclkHz (c : Params) : Chip → Nat
  | .rtd => c.rtdSclkHz
  | .tc => c.tcSclkHz

/-- The bus mode of a chip (40_bus_transport.md R58). -/
def Params.spiMode (c : Params) : Chip → Nat
  | .rtd => c.rtdSpiMode
  | .tc => c.tcSpiMode

/-- The idle level of SCLK in a mode: 0 in modes 0 and 1 (10_state.md R28, decision D11). -/
def sclkIdle (mode : Nat) : Bool := decide (2 ≤ mode)

/-- The five steps of a transaction in the trace (R10). -/
def Params.spiEvents (c : Params) (chip : Chip) (mosi miso : List Byte) : List Event :=
  [.busBegin chip (c.sclkHz chip) (c.spiMode chip), .pin (csPin chip) .low, .spi chip mosi miso,
   .pin (csPin chip) .high, .busEnd chip]

/-- Driving a chip-select pin, without a trace entry. -/
def State.driveCs (chip : Chip) (l : Level) (s : State) : State :=
  match chip with
  | .rtd => { s with csRtd := l }
  | .tc => { s with csTc := l }

/-- `SpiXfer(chip, mosi)`: one complete, atomic transaction. Its answer is `s.miso mosi.length`. -/
def State.spiXfer (chip : Chip) (mosi : List Byte) (s : State) : State :=
  { s.driveCs chip .high with
    sclk := sclkIdle (s.params.spiMode chip)
    mosi := Config.freeMosi (s.freeCount + mosi.length)
    misoIn := s.misoIn.drop mosi.length
    freeCount := s.freeCount + mosi.length
    trace := s.trace ++ s.params.spiEvents chip mosi (s.miso mosi.length) }

/-- A transfer whose received bytes are discarded; the body goes on from `pos`. -/
def State.send (chip : Chip) (mosi : List Byte) (pos : SeqPos) (s : State) : State :=
  { s.spiXfer chip mosi with seq := pos }

/-- A transfer whose received bytes the body keeps; it goes on from point `label`. -/
def State.recv (chip : Chip) (mosi : List Byte) (label : Nat) (flag : Bool) (s : State) : State :=
  s.send chip mosi (.sent label (rxWord (s.miso mosi.length)) flag)

/-! ### Transport primitives (40_bus_transport.md R59 to R62): the bytes each sends -/

/-- The address byte of a read: bit 7 forced to 0 (20_memory.md R35). -/
def readAddr (addr : Byte) : Byte := addr &&& 0x7F#8
/-- The address byte of a write: bit 7 forced to 1. -/
def writeAddr (addr : Byte) : Byte := addr ||| 0x80#8

/-- `readByte` (R59). -/
def Params.readByteMosi (c : Params) (addr : Byte) : List Byte := [readAddr addr, c.fill]
/-- `readWord` (R60). -/
def Params.readWordMosi (c : Params) (addr : Byte) : List Byte := [readAddr addr, c.fill, c.fill]
/-- `writeByte` (R61). -/
def writeByteMosi (addr val : Byte) : List Byte := [writeAddr addr, val]
/-- `readSensor` (R62). -/
def Params.readSensorMosi (c : Params) : List Byte := [c.fill, c.fill, c.fill, c.fill]

/-- `writeByte(RTD, addr, val)`; the body goes on from `pos`. -/
def State.rtdWrite (addr val : Byte) (pos : SeqPos) (s : State) : State :=
  s.send .rtd (writeByteMosi addr val) pos

/-- `CfgWrite(extra)` (41_rtd_engine.md R71). -/
def State.cfgWrite (extra : Byte) (pos : SeqPos) (s : State) : State :=
  s.rtdWrite s.params.rtdAddrConfig (s.cfg ||| extra) pos

/-! ### Pins (10_state.md R28) -/

/-- The levels of SEL2, SEL1, SEL0. -/
def State.pinSel (s : State) : BitVec 3 := if s.outCfg then s.sel else 0#3

/-- The level of ROUTE. -/
def State.pinRoute (s : State) : Bool := s.outCfg && s.route

/-- A driven level. -/
def levelOf (b : Bool) : Level := if b then .high else .low

/-- The trace entry of a write to ROUTE. -/
def State.routeEvents (s : State) : List Event := [.pin .route (levelOf s.pinRoute)]

/-- The trace entries of a write to the select lines. -/
def State.selEvents (s : State) : List Event :=
  [.pin .sel0 (levelOf (s.pinSel.getLsbD 0)), .pin .sel1 (levelOf (s.pinSel.getLsbD 1)),
   .pin .sel2 (levelOf (s.pinSel.getLsbD 2))]

/-- `pin.CS_<chip> <- level`, by a lifecycle rule (44_lifecycle.md). -/
def State.setCs (chip : Chip) (l : Level) (s : State) : State :=
  { s.driveCs chip l with trace := s.trace ++ [.pin (csPin chip) l] }

/-! ### Multiplexer setup (43_channel_mux.md R106) -/

/-- `s.route <- RouteLevel(fam)`; the pin follows. -/
def State.setRoute (fam : Family) (s : State) : State :=
  { s with
    route := s.params.routeLevel fam
    trace := s.trace ++ ({ s with route := s.params.routeLevel fam } : State).routeEvents }

/-- Whether a selection reprograms: the channel or the cached probe differs. -/
def State.mustReprogram (ch : Channel) (probe : ProbeType) (s : State) : Bool :=
  decide (s.curChannel ≠ some ch) || decide (s.cache.get ch ≠ probe)

/-- `s.cache[ch] <- probe`. -/
def State.cacheProbe (ch : Channel) (probe : ProbeType) (s : State) : State :=
  { s with cache := s.cache.set ch probe }

/-- The register part of `RTD_SET_TYPE` (41_rtd_engine.md R74): the wire bit and the recorded probe. -/
def State.rtdType (probe : ProbeType) (s : State) : State :=
  { s.setWire3 (decide (probe = .rtd3W)) with rtdProbe := probe }

/-- The end of `Setup` and the start of a switch (R106, R109, R110): the channel is recorded and the select
lines driven; if they changed, the switch's time is taken and the machine is `Switching`. -/
def State.selectLines (ch : Channel) (rev : Bool) (s : State) : State :=
  let newSel := oneHot (physOf ch rev)
  let changed := decide (newSel ≠ s.sel)
  { s with
    curChannel := some ch
    sel := newSel
    muxTs := if changed then s.now else s.muxTs
    muxState := if changed then .switching else s.muxState
    trace := s.trace ++ ({ s with sel := newSel } : State).selEvents }

/-! ### The shared-output handle (44_lifecycle.md R111, R112) -/

/-- The multiplexer state at acquire and release. -/
def State.clearMux (outCfg : Bool) (s : State) : State :=
  { s with
    outCfg := outCfg
    sel := 0b000#3
    route := false
    curChannel := none
    cache := { ch0 := .none, ch1 := .none, ch2 := .none }
    muxState := .selected
    muxTs := 0#32
    trace := s.trace ++ [.pin .sel0 .low, .pin .sel1 .low, .pin .sel2 .low, .pin .route .low] }

/-- `Acquire()`, called before the activation flag is set. -/
def State.acquire (s : State) : State :=
  if !s.tcActive && !s.rtdActive then s.clearMux true else s

/-- `Release()`, called after the activation flag is cleared. -/
def State.release (s : State) : State :=
  if !s.tcActive && !s.rtdActive && s.outCfg then s.clearMux false else s

/-! ### Acceptance (00_scope.md R12; 10_state.md R15, R20) -/

/-- A `CMD` write while no command executes: `CMD` and the `ARG` registers are captured. -/
def State.accept (w : Word) (s : State) : State :=
  { s with
    cmd := w
    latch := { cmd := w, arg0 := s.arg0, arg1 := s.arg1, arg2 := s.arg2 }
    status := s.status.accept
    seq := .start }

/-- A host write to `CMD`: a submission, or while `BUSY` a dropped write that sets `OVR` (R15, R139). -/
def State.writeCmd (w : Word) (s : State) : State :=
  if s.status.busy then { s with status := s.status.overrun } else s.accept w

/-- The word the engine executes: the latched command (R20; 20_memory.md R44). -/
def State.fetchWord (s : State) : Word := s.latch.cmd

/-! ### The host register block (20_memory.md R32 to R34; 10_state.md R14 to R19) -/

/-- The registers of R32. -/
inductive HostReg where
  | cmd | status | arg0 | arg1 | arg2 | result | engstate | rtdstate | tcstate | tcoffset | cache | muxts | rtdts
  | reserved
  deriving DecidableEq, Repr

/-- The register at a byte offset; `none` where the offset is not a multiple of 4 or beyond 0x3C. -/
def hostReg (off : Nat) : Option HostReg :=
  match off with
  | 0x00 => some .cmd
  | 0x04 => some .status
  | 0x08 => some .arg0
  | 0x0C => some .arg1
  | 0x10 => some .arg2
  | 0x14 => some .result
  | 0x18 => some .engstate
  | 0x1C => some .rtdstate
  | 0x20 => some .tcstate
  | 0x24 => some .tcoffset
  | 0x28 => some .cache
  | 0x2C => some .muxts
  | 0x30 => some .rtdts
  | 0x34 => some .reserved
  | 0x38 => some .reserved
  | 0x3C => some .reserved
  | _ => none

/-- `s.muxState` as its bit of `ENGSTATE`. -/
def muxStateBit : MuxState → BitVec 1
  | .selected => 0#1
  | .switching => 1#1

/-- `s.rtdState` as its field of `ENGSTATE`. -/
def rtdStateBits : RtdState → BitVec 2
  | .idle => 0#2
  | .settling => 1#2
  | .converting => 2#2

/-- `s.curChannel` as an 8-bit two's-complement value. -/
def channelByte : Option Channel → Byte
  | none => 0xFF#8
  | some ch => BitVec.ofNat 8 (channelCode ch)

/-- A ProbeType as a 4-bit field. -/
def probeNibble (p : ProbeType) : BitVec 4 := BitVec.ofNat 4 (probeCode p)

/-- `ENGSTATE` (R17). -/
def State.engstate (s : State) : Word :=
  0#11 ++ BitVec.ofBool s.reverse ++ BitVec.ofBool s.pinRoute ++ s.pinSel ++ channelByte s.curChannel ++ 0#2
    ++ rtdStateBits s.rtdState ++ muxStateBit s.muxState ++ BitVec.ofBool s.outCfg
    ++ BitVec.ofBool s.rtdActive ++ BitVec.ofBool s.tcActive

/-- `RTDSTATE` (R18). -/
def State.rtdstate (s : State) : Word := 0#20 ++ probeNibble s.rtdProbe ++ s.cfg

/-- `TCSTATE` (R18). -/
def State.tcstate (s : State) : Word :=
  0#12 ++ s.tcLastFault ++ 0#4 ++ s.tcMask ++ 0#4 ++ probeNibble s.tcProbe

/-- `CACHE` (R19). -/
def State.cacheWord (s : State) : Word :=
  0#20 ++ probeNibble s.cache.ch2 ++ probeNibble s.cache.ch1 ++ probeNibble s.cache.ch0

/-- What a host read of a register returns; it has no side effect (R34). -/
def State.hostRead (s : State) : HostReg → Word
  | .cmd => s.cmd
  | .status => s.status.word
  | .arg0 => s.arg0
  | .arg1 => s.arg1
  | .arg2 => s.arg2
  | .result => s.result
  | .engstate => s.engstate
  | .rtdstate => s.rtdstate
  | .tcstate => s.tcstate
  | .tcoffset => s.tcOffset
  | .cache => s.cacheWord
  | .muxts => s.muxTs
  | .rtdts => s.rtdTs
  | .reserved => 0#32

/-- The effect of a host write to a register (R34); every other write is ignored. -/
def State.hostWrite (r : HostReg) (v : Word) (s : State) : State :=
  match r with
  | .cmd => s.writeCmd v
  | .status => { s with status := s.status.write v }
  | .arg0 => { s with arg0 := v }
  | .arg1 => { s with arg1 := v }
  | .arg2 => { s with arg2 := v }
  | .result => s
  | .engstate => s
  | .rtdstate => s
  | .tcstate => s
  | .tcoffset => s
  | .cache => s
  | .muxts => s
  | .rtdts => s
  | .reserved => s

/-! ### Reset (70_reset_and_hazards.md R153, R154) -/

/-- `RST` asserted: the command in progress is abandoned and every element takes its reset value. The inputs,
the trace and the model's own fields are not the TPE's to reset. notes/assumptions/8.md. -/
def State.assertReset (s : State) : State :=
  { State.resetWith s.params with
    mosi := Config.freeMosi s.freeCount
    now := s.now
    reverse := s.reverse
    rst := true
    trace := s.trace
    turns := s.turns
    misoIn := s.misoIn
    freeCount := s.freeCount
    hostData := s.hostData }

end Sys2Proof.Machine
end

