-- ==== Sys2Proof/Machine/Agents.lean ====
section
/-! DEFINITION. The steps of the agents around the engine (spec/00_scope.md R4): clock, host, board and
platform, and which agent moves when the script of turns is at its end. -/

namespace Sys2Proof.Machine

/-- A `Clock` step (10_state.md R30). -/
def State.clockTick (s : State) : State :=
  { s with now := BitVec.ofNat 32 ((s.now.toNat + 1) % 2 ^ s.params.tw) }

/-- A `Board` step (R29, 70_reset_and_hazards.md R164). -/
def State.setReverse (level : Bool) (s : State) : State := { s with reverse := level }

/-- The platform drives `RST` (70_reset_and_hazards.md R153). -/
def State.driveReset (asserted : Bool) (s : State) : State :=
  if asserted then s.assertReset else { s with rst := false }

/-- Why a host access of that offset and width has no meaning, if it has none (20_memory.md R33,
60_exceptions.md R140, 70_reset_and_hazards.md R153). -/
def accessRefusal (rst : Bool) (off width : Nat) : Option Refusal :=
  if rst then some .accessInReset
  else if width ≠ 4 then some .accessWidth
  else if off % 4 ≠ 0 then some .accessAlignment
  else if (hostReg off).isNone then some .accessOutside
  else none

/-- A host access (R33, R34): a read delivers its word to the host, a write has the effect of its register. -/
def hostAccess (op : HostOp) (s : State) : Outcome :=
  match op with
  | .read off width =>
    match accessRefusal s.rst off width, hostReg off with
    | none, some r => .next { s with hostData := some (s.hostRead r) }
    | some why, _ => .refused why
    | none, none => .refused .accessOutside
  | .write off width v =>
    match accessRefusal s.rst off width, hostReg off with
    | none, some r => .next (s.hostWrite r v)
    | some why, _ => .refused why
    | none, none => .refused .accessOutside

/-- Whether the engine would take a step that changes anything: a command executes and no wait holds it. -/
def State.engineReady (s : State) : Bool :=
  s.status.busy && !s.rst &&
    match s.seq with
    | .hold _ t0 d _ => decide (d ≤ s.elapsed t0)
    | _ => true

/-- The agent that moves when the script is at its end: the engine when it can, and otherwise the clock, so that
every wait ends (weak fairness, 10_state.md R20). notes/assumptions/2.md. -/
def State.defaultTurn (s : State) : Turn := if s.engineReady then .engine else .clock

/-- `R STATUS` by the host (30_encoding.md R57). -/
def State.readStatus (s : State) : State := { s with hostData := some s.status.word }

/-- One round of `WAITDONE` (R57): while `DONE` is 0 the loop stays in the script, after one default turn. -/
def hostWaitDone (s : State) : Outcome :=
  if s.rst then .refused .accessInReset
  else if s.status.done then .next s.readStatus
  else .next { s.readStatus with turns := s.defaultTurn :: .waitDone :: s.turns }

/-- The last statement of a `POLL` round (R57): while `OK` is 0 the command is submitted again, after a clock
step, and the round is repeated. -/
def hostPollOk (w : Word) (s : State) : Outcome :=
  if s.rst then .refused .accessInReset
  else if s.status.ok then .next s.readStatus
  else
    .next { s.readStatus with
      turns := .clock :: .host (.write 0x00 4 w) :: .waitDone :: .pollOk w :: s.turns }

end Sys2Proof.Machine
end

