-- ==== Sys2Proof/Machine/Lifecycle.lean ====
section
/-! DEFINITION. The lifecycle coordinator (spec/44_lifecycle.md R113 to R118). The bodies of `BEGIN_TC`,
`BEGIN_RTD`, `END_TC` and `END_RTD` are written once, as the steps the composite commands call (00_scope.md
R13: a subroutine's actions take place inline). -/

namespace Sys2Proof.Machine

/-! ### Bodies -/

/-- The start of `BEGIN_TC` when the sub-driver is not active (R113): acquire, chip select idle-high, and the
raw read; the body goes on from point 1. -/
def State.tcOpen (s : State) : State := (s.acquire.setCs .tc .high).recv .tc s.params.readSensorMosi 1 false

/-- Whether the raw word means that no TC chip is there (R113, R141). -/
def Params.tcPresent (c : Params) (raw : Word) : Bool := decide (raw ≠ c.tcAbsent)

/-- The end of `BEGIN_TC`: the sub-driver is active, or torn down. -/
def State.tcOpened (raw : Word) (s : State) : State :=
  if s.params.tcPresent raw then { s with tcActive := true } else (s.setCs .tc .z).release

/-- The seven writes of `BEGIN_RTD` (R114) after the first, numbered 2 to 7: address and value. -/
def Params.beginRtdWrite (c : Params) (cfg : Byte) : Nat → Byte × Byte
  | 2 => (c.rtdAddrConfig, cfg)
  | 3 => (c.rtdAddrLftMsb, 0x00#8)
  | 4 => (c.rtdAddrLftLsb, 0x00#8)
  | 5 => (c.rtdAddrHftMsb, 0xFF#8)
  | 6 => (c.rtdAddrHftLsb, 0xFF#8)
  | _ => (c.rtdAddrConfig, cfg ||| c.cfgFclear)

/-- The start of `BEGIN_RTD` when the sub-driver is not active: acquire, chip select idle-high, mirror reset, and
the write that disables bias; the body goes on from point `base + 1`, with `flag` kept. -/
def State.rtdOpen (base : Nat) (flag : Bool) (s : State) : State :=
  ({ s.acquire.setCs .rtd .high with cfg := 0x00#8, rtdProbe := .none } : State).cfgWrite 0
    (.sent (base + 1) 0 flag)

/-- The write number `k` of `BEGIN_RTD`; the body goes on from point `base + k`. -/
def State.rtdOpenWrite (base k : Nat) (flag : Bool) (s : State) : State :=
  s.rtdWrite (s.params.beginRtdWrite s.cfg k).1 (s.params.beginRtdWrite s.cfg k).2 (.sent (base + k) 0 flag)

/-- The end of `BEGIN_RTD`: the non-blocking machine is idle and the sub-driver active. -/
def State.rtdOpened (s : State) : State :=
  { s with rtdState := .idle, rtdTs := 0#32, rtdAsyncBiasWasOn := false, rtdActive := true }

/-- The body of `END_TC` (R116). -/
def State.tcClose (s : State) : State :=
  if s.tcActive then ({ s.setCs .tc .z with tcActive := false } : State).release else s

/-- The body of `END_RTD` (R117). -/
def State.rtdClose (s : State) : State :=
  if s.rtdActive then ({ s.setCs .rtd .z with rtdActive := false, rtdState := .idle } : State).release else s

/-! ### Commands -/

/-- `BEGIN_TC` (R113). Point 1 is after the raw read. -/
def execBeginTc (s : State) : Outcome :=
  match s.seq with
  | .start => if s.tcActive then .next (s.finish true) else .next s.tcOpen
  | .sent 1 raw _ => .next ((s.tcOpened raw).finish (s.params.tcPresent raw))
  | _ => .fault .sequencerLost

/-- `BEGIN_RTD` (R114). Point `k` is after the `k`-th of its seven writes. -/
def execBeginRtd (s : State) : Outcome :=
  match s.seq with
  | .start => if s.rtdActive then .next (s.finish true) else .next (s.rtdOpen 0 false)
  | .sent 1 _ f => .next (s.rtdOpenWrite 0 2 f)
  | .sent 2 _ f => .next (s.rtdOpenWrite 0 3 f)
  | .sent 3 _ f => .next (s.rtdOpenWrite 0 4 f)
  | .sent 4 _ f => .next (s.rtdOpenWrite 0 5 f)
  | .sent 5 _ f => .next (s.rtdOpenWrite 0 6 f)
  | .sent 6 _ f => .next (s.rtdOpenWrite 0 7 f)
  | .sent 7 _ _ => .next (s.rtdOpened.finish true)
  | _ => .fault .sequencerLost

/-- `do BEGIN_RTD()` inside `BEGIN` (R115), `okT` being what `BEGIN_TC` passed to `finish`. -/
def State.beginRtdPart (okT : Bool) (s : State) : State :=
  if s.rtdActive then s.finish okT else s.rtdOpen 1 okT

/-- `BEGIN` (R115). Point 1 is after the raw read of `BEGIN_TC`, points 2 to 8 after the writes of `BEGIN_RTD`;
from point 2 on the flag is `okT`. -/
def execBeginBoth (s : State) : Outcome :=
  match s.seq with
  | .start => if s.tcActive then .next (s.beginRtdPart true) else .next s.tcOpen
  | .sent 1 raw _ => .next ((s.tcOpened raw).beginRtdPart (s.params.tcPresent raw))
  | .sent 2 _ okT => .next (s.rtdOpenWrite 1 2 okT)
  | .sent 3 _ okT => .next (s.rtdOpenWrite 1 3 okT)
  | .sent 4 _ okT => .next (s.rtdOpenWrite 1 4 okT)
  | .sent 5 _ okT => .next (s.rtdOpenWrite 1 5 okT)
  | .sent 6 _ okT => .next (s.rtdOpenWrite 1 6 okT)
  | .sent 7 _ okT => .next (s.rtdOpenWrite 1 7 okT)
  | .sent 8 _ okT => .next (s.rtdOpened.finish okT)
  | _ => .fault .sequencerLost

/-- `END_TC` (R116). -/
def execEndTc (s : State) : Outcome :=
  match s.seq with
  | .start => .next (s.tcClose.finish true)
  | _ => .fault .sequencerLost

/-- `END_RTD` (R117). -/
def execEndRtd (s : State) : Outcome :=
  match s.seq with
  | .start => .next (s.rtdClose.finish true)
  | _ => .fault .sequencerLost

/-- `END` (R118). -/
def execEndBoth (s : State) : Outcome :=
  match s.seq with
  | .start => .next (s.tcClose.rtdClose.finish true)
  | _ => .fault .sequencerLost

end Sys2Proof.Machine
end

