-- ==== Sys2Proof/Machine/Mux.lean ====
section
/-! DEFINITION. The channel-select multiplexer (spec/43_channel_mux.md R106 to R110). -/

namespace Sys2Proof.Machine

/-- What the checks of R108 leave of a select command: an error, the silent no-op of R106, or a selection. -/
inductive MuxRequest where
  | error (e : CmdError)
  | ignored
  | select (ch : Channel) (probe : ProbeType) (fam : Family)
  deriving DecidableEq, Repr

/-- The checks of R108, in their order: the probe, the family's sub-driver, the channel (`NCH` of them, R5). -/
def State.muxRequest (channel : Coded Channel) (probe : Coded ProbeType) (s : State) : MuxRequest :=
  match probe with
  | .unknown _ => .error .arg
  | .known p =>
    match familyOf p with
    | none => .error .arg
    | some fam =>
      if s.familyActive fam then
        match channel with
        | .unknown _ => .ignored
        | .known ch => if channelCode ch < s.params.nch then .select ch p fam else .ignored
      else .error .inactive

/-- `Setup` (R106) up to its SPI write, if it makes one; the position's flag is the sample of `REVERSE`. `none`
means that it makes none and the state is the one before the channel is recorded. -/
def State.muxSetup (ch : Channel) (probe : ProbeType) (fam : Family) (s : State) : State × Bool :=
  let s1 := s.setRoute fam
  if s1.mustReprogram ch probe then
    match fam with
    | .rtd => ((s1.rtdType probe).cfgWrite 0 (.sent 1 0 s1.reverse), true)
    | .tc => (({ s1 with tcProbe := probe } : State).cacheProbe ch probe, false)
  else (s1, false)

/-- The end of `MUX_SEL` (R109) once the lines are driven: a pending switch is waited out from `s.muxTs`. -/
def State.muxSelEnd (fam : Family) (s : State) : State :=
  match s.muxState with
  | .selected => s.finish true
  | .switching =>
    if s.params.settle fam ≤ s.elapsed s.muxTs then ({ s with muxState := .selected } : State).finish true
    else { s with seq := .hold 2 s.muxTs (s.params.settle fam) false }

/-- The end of `MUX_SEL_ASYNC` (R110) once the lines are driven: a switch that has settled is `Selected`, and `OK`
says whether the machine is. -/
def State.muxSelAsyncEnd (fam : Family) (s : State) : State :=
  match s.muxState with
  | .selected => s.finish true
  | .switching =>
    if s.params.settle fam ≤ s.elapsed s.muxTs then ({ s with muxState := .selected } : State).finish true
    else s.finish false

/-- `MUX_SEL` (R109). Point 1 is after the RTD reprogram's write; point 2 holds `WaitSince(s.muxTs, Settle(fam))`. -/
def execMuxSel (channel : Coded Channel) (probe : Coded ProbeType) (s : State) : Outcome :=
  match s.seq with
  | .start =>
    match s.muxRequest channel probe with
    | .error e => .next (s.fail e)
    | .ignored => .next (s.finish true)
    | .select ch p fam =>
      let (s1, sent) := s.muxSetup ch p fam
      if sent then .next s1 else .next ((s1.selectLines ch s1.reverse).muxSelEnd fam)
  | .sent 1 _ rev =>
    match channel, probe with
    | .known ch, .known p => .next (((s.cacheProbe ch p).selectLines ch rev).muxSelEnd .rtd)
    | _, _ => .fault .sequencerLost
  | .hold 2 t0 d _ => whenElapsed t0 d s (({ s with muxState := .selected } : State).finish true)
  | _ => .fault .sequencerLost

/-- `MUX_SEL_ASYNC` (R110). It never holds. -/
def execMuxSelAsync (channel : Coded Channel) (probe : Coded ProbeType) (s : State) : Outcome :=
  match s.seq with
  | .start =>
    match s.muxRequest channel probe with
    | .error e => .next (s.fail e)
    | .ignored => .next (s.finish false)
    | .select ch p fam =>
      let (s1, sent) := s.muxSetup ch p fam
      if sent then .next s1 else .next ((s1.selectLines ch s1.reverse).muxSelAsyncEnd fam)
  | .sent 1 _ rev =>
    match channel, probe with
    | .known ch, .known p => .next (((s.cacheProbe ch p).selectLines ch rev).muxSelAsyncEnd .rtd)
    | _, _ => .fault .sequencerLost
  | _ => .fault .sequencerLost

end Sys2Proof.Machine
end

