-- ==== Sys2Proof/Machine/Pipeline.lean ====
section
/-! DEFINITION. The decode pipeline (spec/45_decode_pipeline.md): the piecewise polynomial evaluator, RTD
resistance and temperature, and the three commands that expose them. Pure arithmetic on the latched `ARG`
registers; each body is one engine step, allowed whatever the activation flags are. -/

namespace Sys2Proof.Machine

/-! ### The evaluator (R120) -/

/-- The power series from `c_0` upward: `out <- out + p*c; p <- p*v`. -/
def powerSeries (v : Fp) : List Fp → Fp → Fp → Fp
  | [], _, out => out
  | c :: cs, p, out => powerSeries v cs (Fp.mul p v) (Fp.add out (Fp.mul p c))

/-- `PolyEval(table, v)`: the first segment whose bound exceeds the value; NaN where it has no coefficients
and where no bound exceeds the value. -/
def polyEval : List Segment → Fp → Fp
  | [], _ => Fp.nan
  | seg :: segs, v =>
    if Fp.gt seg.bound v then
      match seg.coeffs with
      | [] => Fp.nan
      | c :: cs => powerSeries v (c :: cs) Rom.one (Fp.zero false)
    else polyEval segs v

/-! ### RTD resistance and temperature -/

/-- Whether a reference value is finite and positive (R130, R131). -/
def finitePositive (x : Fp) : Bool := Fp.gt x (Fp.zero false) && !decide (x = Fp.inf false)

/-- `RtdRes(raw15, rref)` (R130). -/
def Params.rtdRes (c : Params) (raw : Nat) (rref : Fp) : Fp :=
  if finitePositive rref then Fp.mul (Fp.div (Fp.ofInt raw) c.rtdFull) rref else Fp.nan

/-- The discriminant `s` of R131: `(A*A - 4B) + (4B/R0)*R`. -/
def Params.rtdDiscriminant (c : Params) (r r0 : Fp) : Fp :=
  let z1 := Fp.mul c.rtdA c.rtdA
  let z4 := Fp.mul Rom.four c.rtdB
  let z2 := Fp.sub z1 z4
  let z3 := Fp.div z4 r0
  Fp.add z2 (Fp.mul z3 r)

/-- The quadratic solution `t` of R131 from the discriminant. -/
def Params.rtdQuadratic (c : Params) (s : Fp) : Fp := Fp.div (Fp.sub (Fp.sqrt s) c.rtdA) (Fp.mul Rom.two c.rtdB)

/-- The sub-zero branch of R131: `RTD_SUB` as a single segment (R129). -/
def Params.rtdSubZero (c : Params) (r r0 : Fp) : Fp :=
  polyEval [⟨Fp.inf false, c.rtdSub⟩] (Fp.mul (Fp.div r r0) Rom.hundred)

/-- `RtdTemp(raw15, rref, r0)` (R131). -/
def Params.rtdTemp (c : Params) (raw : Nat) (rref r0 : Fp) : Fp :=
  if !finitePositive r0 then Fp.nan
  else
    let r := c.rtdRes raw rref
    if r.isNaN then Fp.nan
    else
      let s := c.rtdDiscriminant r r0
      if !Fp.ge s (Fp.zero false) then Fp.nan
      else
        let t := c.rtdQuadratic s
        if Fp.ge t (Fp.zero false) then t else c.rtdSubZero r r0

/-! ### The commands -/

/-- `POLY_EVAL` (R121). -/
def execPolyEval (table : Coded TableId) (s : State) : Outcome :=
  match s.seq with
  | .start =>
    match table with
    | .unknown _ => .next (s.fail .arg)
    | .known t => .next (s.finishWith (polyEval (s.params.table t) (Fp.ofBits s.latch.arg0)))
  | _ => .fault .sequencerLost

/-- `RTD_CALC_RES` (R132). -/
def execRtdCalcRes (s : State) : Outcome :=
  match s.seq with
  | .start => .next (s.finishWith (s.params.rtdRes (raw15 s.latch.arg0) (Fp.ofBits s.latch.arg1)))
  | _ => .fault .sequencerLost

/-- `RTD_CALC_TEMP` (R133). -/
def execRtdCalcTemp (s : State) : Outcome :=
  match s.seq with
  | .start =>
    .next (s.finishWith (s.params.rtdTemp (raw15 s.latch.arg0) (Fp.ofBits s.latch.arg1) (Fp.ofBits s.latch.arg2)))
  | _ => .fault .sequencerLost

end Sys2Proof.Machine
end

