-- ==== Sys2Proof/Machine/Rtd.lean ====
section
/-! DEFINITION. RTD engine commands (spec/41_rtd_engine.md R73 to R84). Code operands are checked first,
then the sub-driver's activity (R73); later points of a body check nothing again. -/

namespace Sys2Proof.Machine

/-- The activity check of R73 before a body's first action. -/
def ifRtdActive (s : State) (go : State) : Outcome :=
  if s.rtdActive then .next go else .next (s.fail .inactive)

/-- `RTD_SET_TYPE` (R74). -/
def execRtdSetType (probe : Coded ProbeType) (s : State) : Outcome :=
  match s.seq with
  | .start =>
    match probe with
    | .unknown _ => .next (s.fail .arg)
    | .known p => ifRtdActive s ((s.rtdType p).cfgWrite 0 (.sent 1 0 false))
  | .sent 1 _ _ => .next (s.finish true)
  | _ => .fault .sequencerLost

/-- `RTD_SET_THRESH` (R75): point `k` is after the `k`-th of the four writes. -/
def execRtdSetThresh (s : State) : Outcome :=
  match s.seq with
  | .start => ifRtdActive s (s.rtdWrite s.params.rtdAddrLftMsb (lowerMsb s.latch.arg0) (.sent 1 0 false))
  | .sent 1 _ _ => .next (s.rtdWrite s.params.rtdAddrLftLsb (lowerLsb s.latch.arg0) (.sent 2 0 false))
  | .sent 2 _ _ => .next (s.rtdWrite s.params.rtdAddrHftMsb (upperMsb s.latch.arg0) (.sent 3 0 false))
  | .sent 3 _ _ => .next (s.rtdWrite s.params.rtdAddrHftLsb (upperLsb s.latch.arg0) (.sent 4 0 false))
  | .sent 4 _ _ => .next (s.finish true)
  | _ => .fault .sequencerLost

/-- `RTD_GET_LOWER` (R76). -/
def execRtdGetLower (s : State) : Outcome :=
  match s.seq with
  | .start => ifRtdActive s (s.recv .rtd (s.params.readWordMosi s.params.rtdAddrLftMsb) 1 false)
  | .sent 1 rx _ => .next (s.finishWith ((rxHalf rx).setWidth 32))
  | _ => .fault .sequencerLost

/-- `RTD_GET_UPPER` (R77). -/
def execRtdGetUpper (s : State) : Outcome :=
  match s.seq with
  | .start => ifRtdActive s (s.recv .rtd (s.params.readWordMosi s.params.rtdAddrHftMsb) 1 false)
  | .sent 1 rx _ => .next (s.finishWith ((rxHalf rx).setWidth 32))
  | _ => .fault .sequencerLost

/-- `RTD_SET_AUTO` (R78): the flag of point 1 is `wasOn`; point 2 holds `Wait(AutoTime())`. -/
def execRtdSetAuto (en : Bool) (s : State) : Outcome :=
  match s.seq with
  | .start => ifRtdActive s ((s.setAuto en).cfgWrite 0 (.sent 1 0 s.continuous))
  | .sent 1 _ wasOn =>
    if en && !wasOn then .next (s.waitThen 2 s.autoTime false (s.finish true)) else .next (s.finish true)
  | .hold 2 t0 d _ => whenElapsed t0 d s (s.finish true)
  | _ => .fault .sequencerLost

/-- `RTD_SET_50HZ` (R79). -/
def execRtdSet50Hz (en : Bool) (s : State) : Outcome :=
  match s.seq with
  | .start => ifRtdActive s ((s.setFilter50 en).cfgWrite 0 (.sent 1 0 false))
  | .sent 1 _ _ => .next (s.finish true)
  | _ => .fault .sequencerLost

/-- `RTD_SET_BIAS` (R80). -/
def execRtdSetBias (en : Bool) (s : State) : Outcome :=
  match s.seq with
  | .start => ifRtdActive s ((s.setBias en).cfgWrite 0 (.sent 1 0 false))
  | .sent 1 _ _ => .next (s.finish true)
  | _ => .fault .sequencerLost

/-- The config write that triggers a fault cycle (R70, R81). -/
def State.faultWrite (trig : Byte) (pos : SeqPos) (s : State) : State :=
  s.rtdWrite s.params.rtdAddrConfig (s.params.faultByte s.cfg trig) pos

/-- `s.cfg <- w & CFG_PERSIST` after that write (R81). -/
def State.faultMirror (trig : Byte) (s : State) : State :=
  { s with cfg := s.params.faultByte s.cfg trig &&& s.params.cfgPersist }

/-- `RTD_READ_FAULT` (R81): point 1 is after the trigger write, 2 holds `Wait(T_FAULT_AUTO)`, 3 is after the
read of the fault register. -/
def execRtdReadFault (cycle : Coded FaultCycle) (s : State) : Outcome :=
  match cycle, s.seq with
  | .unknown _, .start => .next (s.fail .arg)
  | .known .none, .start => ifRtdActive s (s.recv .rtd (s.params.readByteMosi s.params.rtdAddrFault) 3 false)
  | .known .none, .sent 3 rx _ => .next (s.finishWith ((rxByte rx).setWidth 32))
  | .known .auto, .start => ifRtdActive s (s.faultWrite s.params.fltTrigAuto (.sent 1 0 false))
  | .known .auto, .sent 1 _ _ =>
    let mirrored := s.faultMirror s.params.fltTrigAuto
    .next (mirrored.waitThen 2 s.params.tFaultAuto false
      (mirrored.recv .rtd (s.params.readByteMosi s.params.rtdAddrFault) 3 false))
  | .known .auto, .hold 2 t0 d _ =>
    whenElapsed t0 d s (s.recv .rtd (s.params.readByteMosi s.params.rtdAddrFault) 3 false)
  | .known .auto, .sent 3 rx _ => .next (s.finishWith ((rxByte rx).setWidth 32))
  | .known .manualRun, .start => ifRtdActive s (s.faultWrite s.params.fltTrigManualRun (.sent 1 0 false))
  | .known .manualRun, .sent 1 _ _ => .next ((s.faultMirror s.params.fltTrigManualRun).finishWith 0)
  | .known .manualFinish, .start => ifRtdActive s (s.faultWrite s.params.fltTrigManualFinish (.sent 1 0 false))
  | .known .manualFinish, .sent 1 _ _ => .next ((s.faultMirror s.params.fltTrigManualFinish).finishWith 0)
  | _, _ => .fault .sequencerLost

/-- `RTD_CLEAR_FAULT` (R82). -/
def execRtdClearFault (s : State) : Outcome :=
  match s.seq with
  | .start => ifRtdActive s (s.cfgWrite s.params.cfgFclear (.sent 1 0 false))
  | .sent 1 _ _ => .next (s.finish true)
  | _ => .fault .sequencerLost

/-- The read of the raw sample (R83, R84). -/
def State.readSample (label : Nat) (flag : Bool) (s : State) : State :=
  s.recv .rtd (s.params.readWordMosi s.params.rtdAddrRtdMsb) label flag

/-- `RTD_READ` (R83); the flag is `biasWasOn`. Points: 1 fault cleared, 2 bias enabled, then holding
`Wait(T_BIAS)`, 3 one-shot triggered, then holding `Wait(ConvTime())`, 4 sample read, 5 bias disabled again. -/
def execRtdRead (s : State) : Outcome :=
  match s.seq with
  | .start => ifRtdActive s (s.cfgWrite s.params.cfgFclear (.sent 1 0 s.bias))
  | .sent 1 _ biasWasOn =>
    if s.continuous then .next (s.readSample 4 biasWasOn)
    else if s.bias then .next (s.cfgWrite s.params.cfgOneshot (.sent 3 0 biasWasOn))
    else .next ((s.setBias true).cfgWrite 0 (.sent 2 0 biasWasOn))
  | .sent 2 _ biasWasOn =>
    .next (s.waitThen 2 s.params.tBias biasWasOn (s.cfgWrite s.params.cfgOneshot (.sent 3 0 biasWasOn)))
  | .hold 2 t0 d biasWasOn => whenElapsed t0 d s (s.cfgWrite s.params.cfgOneshot (.sent 3 0 biasWasOn))
  | .sent 3 _ biasWasOn => .next (s.waitThen 3 s.convTime biasWasOn (s.readSample 4 biasWasOn))
  | .hold 3 t0 d biasWasOn => whenElapsed t0 d s (s.readSample 4 biasWasOn)
  | .sent 4 rx biasWasOn =>
    if biasWasOn then .next (s.finishWith (rtdCode rx))
    else .next ((s.setBias false).cfgWrite 0 (.sent 5 rx biasWasOn))
  | .sent 5 rx _ => .next (s.finishWith (rtdCode rx))
  | _ => .fault .sequencerLost

/-- The end of the machine's `Idle` phase: the time is taken and it is `Settling` (R84). -/
def State.rtdSettle (s : State) : State := { s with rtdTs := s.now, rtdState := .settling }

/-- The end of the `Settling` phase. -/
def State.rtdConvert (s : State) : State := { s with rtdTs := s.now, rtdState := .converting }

/-- The delivery of a value: the machine is `Idle` again. -/
def State.rtdDeliver (rx : Word) (s : State) : State := ({ s with rtdState := .idle } : State).finishWith (rtdCode rx)

/-- `RTD_READ_ASYNC` (R84). Points: 1 fault cleared, 2 bias enabled, 3 one-shot triggered, 4 sample read,
5 bias restored. -/
def execRtdReadAsync (s : State) : Outcome :=
  match s.seq with
  | .start =>
    if s.rtdActive then
      match s.rtdState with
      | .idle => .next (s.cfgWrite s.params.cfgFclear (.sent 1 0 false))
      | .settling =>
        if s.params.tBias ≤ s.elapsed s.rtdTs then .next (s.cfgWrite s.params.cfgOneshot (.sent 3 0 false))
        else .next (s.finish false)
      | .converting =>
        if s.convTime ≤ s.elapsed s.rtdTs then .next (s.readSample 4 false) else .next (s.finish false)
    else .next (s.fail .inactive)
  | .sent 1 _ _ =>
    if s.bias then .next (({ s with rtdAsyncBiasWasOn := true } : State).rtdSettle.finish false)
    else .next ((({ s with rtdAsyncBiasWasOn := false } : State).setBias true).cfgWrite 0 (.sent 2 0 false))
  | .sent 2 _ _ => .next (s.rtdSettle.finish false)
  | .sent 3 _ _ => .next (s.rtdConvert.finish false)
  | .sent 4 rx _ =>
    if s.params.asyncRestoreBias && !s.rtdAsyncBiasWasOn then
      .next ((s.setBias false).cfgWrite 0 (.sent 5 rx false))
    else .next (s.rtdDeliver rx)
  | .sent 5 rx _ => .next (s.rtdDeliver rx)
  | _ => .fault .sequencerLost

end Sys2Proof.Machine
end

