-- ==== Sys2Proof/Machine/Tc.lean ====
section
/-! DEFINITION. The TC engine (spec/42_tc_engine.md): decoding of the raw word, the fault latch, the
compensated voltage and temperature, and the eight TC commands. -/

namespace Sys2Proof.Machine

/-! ### Decode functions -/

/-- `DecHot(raw)` (R87). -/
def Params.decHot (c : Params) (raw : Word) : Fp := Fp.mul (Fp.ofInt (hotCode raw)) c.tcHotLsb

/-- `DecCold(raw)` with the offset in force (R88). -/
def Params.decCold (c : Params) (offset : Fp) (raw : Word) : Fp :=
  Fp.sub (Fp.mul (Fp.ofInt (coldCode raw)) c.tcColdLsb) offset

/-- The masked fault flags of `FaultCheck(raw)` (R89); nonzero is `FAULT`. -/
def State.maskedFault (raw : Word) (s : State) : BitVec 4 := faultFlags raw &&& s.tcMask

/-- The K-alloy correction `K_EXP_A0 * exp(K_EXP_A1 * (cold - K_EXP_A2)^2)` (R91). -/
def Params.kCorrection (c : Params) (cold : Fp) : Fp :=
  let d := Fp.sub cold c.kExpA2
  let e := Fp.mul d d
  let g := Fp.mul c.kExpA1 e
  let x := Fp.exp g
  Fp.mul c.kExpA0 x

/-- `Voltage(raw)` in mV (R91), for a probe with forward table `fwd`. -/
def Params.voltage (c : Params) (probe : ProbeType) (fwd : List Segment) (offset : Fp) (raw : Word) : Fp :=
  let hot := c.decHot raw
  let cold := c.decCold offset raw
  let t1 := Fp.add cold offset
  let t2 := Fp.sub hot t1
  let t3 := Fp.mul t2 c.tcSeebeck
  let p := polyEval fwd cold
  let v := Fp.add t3 p
  if decide (probe = .tcK) && Fp.gt cold (Fp.zero false) then Fp.add v (c.kCorrection cold) else v

/-! ### Commands without a transaction (R92 to R98) -/

/-- `TC_SET_TYPE` (R93). -/
def execTcSetType (probe : Coded ProbeType) (s : State) : Outcome :=
  match s.seq with
  | .start =>
    match probe with
    | .unknown _ => .next (s.fail .arg)
    | .known p => .next (({ s with tcProbe := p } : State).finish true)
  | _ => .fault .sequencerLost

/-- `TC_SET_FAULT_MASK` (R94). -/
def execTcSetFaultMask (mask : BitVec 4) (s : State) : Outcome :=
  match s.seq with
  | .start => .next (({ s with tcMask := mask } : State).finish true)
  | _ => .fault .sequencerLost

/-- `TC_GET_LAST_FAULT` (R95): returned and cleared. -/
def execTcGetLastFault (s : State) : Outcome :=
  match s.seq with
  | .start => .next (({ s with tcLastFault := 0#4 } : State).finishWith (s.tcLastFault.setWidth 32))
  | _ => .fault .sequencerLost

/-- `TC_SET_CJ_OFFSET` (R96). -/
def execTcSetCjOffset (s : State) : Outcome :=
  match s.seq with
  | .start => .next (({ s with tcOffset := Fp.ofBits s.latch.arg0 } : State).finish true)
  | _ => .fault .sequencerLost

/-- `TC_DEC_HOT` (R97). -/
def execTcDecHot (s : State) : Outcome :=
  match s.seq with
  | .start => .next (s.finishWith (s.params.decHot s.latch.arg0))
  | _ => .fault .sequencerLost

/-- `TC_DEC_COLD` (R98). -/
def execTcDecCold (s : State) : Outcome :=
  match s.seq with
  | .start => .next (s.finishWith (s.params.decCold s.tcOffset s.latch.arg0))
  | _ => .fault .sequencerLost

/-! ### Readings (R99, R100): one transfer (`start`), then the decoding (`sent 1`) -/

/-- The end of a reading: a masked fault is latched and the reading is NaN; a probe without a table gives NaN;
otherwise the reading is the given value. -/
def State.tcReading (raw : Word) (value : Option Fp) (s : State) : State :=
  if s.maskedFault raw ≠ 0#4 then
    ({ s with tcLastFault := s.maskedFault raw } : State).finishWith Fp.nan
  else
    match value with
    | none => s.finishWith Fp.nan
    | some v => s.finishWith v

/-- The value of `TC_READ_VOLT`, where the probe has a forward table. -/
def State.tcVolt (raw : Word) (s : State) : Option Fp :=
  (s.params.fwdTable s.tcProbe).map fun fwd => s.params.voltage s.tcProbe fwd s.tcOffset raw

/-- The value of `TC_READ_TEMP`, where the probe has tables. -/
def State.tcTemp (raw : Word) (s : State) : Option Fp :=
  match s.params.invTable s.tcProbe with
  | none => none
  | some inv => (s.tcVolt raw).map fun v => polyEval inv v

/-- `TC_READ_VOLT` (R99). -/
def execTcReadVolt (s : State) : Outcome :=
  match s.seq with
  | .start => if s.tcActive then .next (s.recv .tc s.params.readSensorMosi 1 false) else .next (s.fail .inactive)
  | .sent 1 raw _ => .next (s.tcReading raw (s.tcVolt raw))
  | _ => .fault .sequencerLost

/-- `TC_READ_TEMP` (R100). -/
def execTcReadTemp (s : State) : Outcome :=
  match s.seq with
  | .start => if s.tcActive then .next (s.recv .tc s.params.readSensorMosi 1 false) else .next (s.fail .inactive)
  | .sent 1 raw _ => .next (s.tcReading raw (s.tcTemp raw))
  | _ => .fault .sequencerLost

end Sys2Proof.Machine
end

