-- ==== Sys2Proof/Machine/Transport.lean ====
section
/-! DEFINITION. Bus transport commands (spec/40_bus_transport.md R63 to R67). A meaning is one engine step
of its command: it reads the sequencer position, makes the step, and leaves the next position. Every one
of these bodies is one transfer (`start`) and an end (`sent 1`). -/

namespace Sys2Proof.Machine

/-- `NOP` (R63). -/
def execNop (s : State) : Outcome :=
  match s.seq with
  | .start => .next (s.finish true)
  | _ => .fault .sequencerLost

/-- `SPI_RD8` (R64). -/
def execSpiRd8 (chip : Chip) (addr : Byte) (s : State) : Outcome :=
  match s.seq with
  | .start =>
    if s.chipActive chip then .next (s.recv chip (s.params.readByteMosi addr) 1 false) else .next (s.fail .inactive)
  | .sent 1 rx _ => .next (s.finishWith ((rxByte rx).setWidth 32))
  | _ => .fault .sequencerLost

/-- `SPI_RD16` (R65). -/
def execSpiRd16 (chip : Chip) (addr : Byte) (s : State) : Outcome :=
  match s.seq with
  | .start =>
    if s.chipActive chip then .next (s.recv chip (s.params.readWordMosi addr) 1 false) else .next (s.fail .inactive)
  | .sent 1 rx _ => .next (s.finishWith ((rxHalf rx).setWidth 32))
  | _ => .fault .sequencerLost

/-- `SPI_WR8` (R66). The mirror `s.cfg` is not updated. -/
def execSpiWr8 (chip : Chip) (addr value : Byte) (s : State) : Outcome :=
  match s.seq with
  | .start =>
    if s.chipActive chip then .next (s.recv chip (writeByteMosi addr value) 1 false)
    else .next (s.fail .inactive)
  | .sent 1 _ _ => .next (s.finish true)
  | _ => .fault .sequencerLost

/-- `TC_RD32` (R67): the raw word as received. -/
def execTcRd32 (s : State) : Outcome :=
  match s.seq with
  | .start => if s.tcActive then .next (s.recv .tc s.params.readSensorMosi 1 false) else .next (s.fail .inactive)
  | .sent 1 rx _ => .next (s.finishWith rx)
  | _ => .fault .sequencerLost

end Sys2Proof.Machine
end

