-- ==== Sys2Proof/Machine/Dispatch.lean ====
section
/-! DEFINITION. One engine step of the command `i` that is executing: each arm calls the command's meaning. -/

namespace Sys2Proof.Machine

def exec (i : Instr) (s : State) : Host.Outcome State Fault Refusal :=
  match i with
  | .nop => Sys2Proof.Machine.execNop s
  | .spiRd8 chip addr => Sys2Proof.Machine.execSpiRd8 chip addr s
  | .spiRd16 chip addr => Sys2Proof.Machine.execSpiRd16 chip addr s
  | .spiWr8 chip addr value => Sys2Proof.Machine.execSpiWr8 chip addr value s
  | .tcRd32 => Sys2Proof.Machine.execTcRd32 s
  | .rtdSetType probe => Sys2Proof.Machine.execRtdSetType probe s
  | .rtdSetThresh => Sys2Proof.Machine.execRtdSetThresh s
  | .rtdGetLower => Sys2Proof.Machine.execRtdGetLower s
  | .rtdGetUpper => Sys2Proof.Machine.execRtdGetUpper s
  | .rtdSetAuto en => Sys2Proof.Machine.execRtdSetAuto en s
  | .rtdSet50Hz en => Sys2Proof.Machine.execRtdSet50Hz en s
  | .rtdSetBias en => Sys2Proof.Machine.execRtdSetBias en s
  | .rtdReadFault cycle => Sys2Proof.Machine.execRtdReadFault cycle s
  | .rtdClearFault => Sys2Proof.Machine.execRtdClearFault s
  | .rtdRead => Sys2Proof.Machine.execRtdRead s
  | .rtdReadAsync => Sys2Proof.Machine.execRtdReadAsync s
  | .tcSetType probe => Sys2Proof.Machine.execTcSetType probe s
  | .tcSetFaultMask mask => Sys2Proof.Machine.execTcSetFaultMask mask s
  | .tcGetLastFault => Sys2Proof.Machine.execTcGetLastFault s
  | .tcSetCjOffset => Sys2Proof.Machine.execTcSetCjOffset s
  | .tcDecHot => Sys2Proof.Machine.execTcDecHot s
  | .tcDecCold => Sys2Proof.Machine.execTcDecCold s
  | .tcReadVolt => Sys2Proof.Machine.execTcReadVolt s
  | .tcReadTemp => Sys2Proof.Machine.execTcReadTemp s
  | .muxSel channel probe => Sys2Proof.Machine.execMuxSel channel probe s
  | .muxSelAsync channel probe => Sys2Proof.Machine.execMuxSelAsync channel probe s
  | .beginTc => Sys2Proof.Machine.execBeginTc s
  | .beginRtd => Sys2Proof.Machine.execBeginRtd s
  | .beginBoth => Sys2Proof.Machine.execBeginBoth s
  | .endTc => Sys2Proof.Machine.execEndTc s
  | .endRtd => Sys2Proof.Machine.execEndRtd s
  | .endBoth => Sys2Proof.Machine.execEndBoth s
  | .polyEval table => Sys2Proof.Machine.execPolyEval table s
  | .rtdCalcRes => Sys2Proof.Machine.execRtdCalcRes s
  | .rtdCalcTemp => Sys2Proof.Machine.execRtdCalcTemp s

end Sys2Proof.Machine
end

