-- ==== Sys2Proof/Machine/Step.lean ====
section
/-! DEFINITION. One step of the machine: the next agent of the script takes its step. The engine's step runs the
latched command (spec/00_scope.md R12, spec/10_state.md R20); there is no instruction fetch from memory
(spec/20_memory.md R44). -/

namespace Sys2Proof.Machine

/-- An engine step: none while `RST` is asserted (70_reset_and_hazards.md R153) or no command executes (R152);
otherwise one step of the latched command, or `fail ERR_ILLEGAL` where its opcode is unassigned
(30_encoding.md R53). -/
def engineTurn (s : State) : Outcome :=
  if s.rst || !s.status.busy then .next s
  else
    match decode s.fetchWord with
    | .ok i => exec i s
    | .error _ => .next (s.fail .illegal)

/-- The step of one agent. -/
def takeTurn (t : Turn) (s : State) : Outcome :=
  match t with
  | .engine => engineTurn s
  | .clock => .next s.clockTick
  | .host op => hostAccess op s
  | .board level => .next (s.setReverse level)
  | .reset asserted => .next (s.driveReset asserted)
  | .waitDone => hostWaitDone s
  | .pollOk w => hostPollOk w s

/-- One step of the machine: the script's first turn, or the default turn when the script is at its end. -/
def step (s : State) : Host.Outcome State Fault Refusal :=
  match s.turns with
  | [] => takeTurn s.defaultTurn s
  | t :: ts => takeTurn t { s with turns := ts }

/-- The state in which the word of a table row has just been accepted (R12) and the engine moves next, so that
the next step is the first engine step of its command. notes/assumptions/1.md. -/
def State.withFetchWord (s : State) (nbits w : Nat) : State :=
  { s.accept (BitVec.ofNat 32 (w % 2 ^ nbits)) with rst := false, turns := .engine :: s.turns }

end Sys2Proof.Machine
end

