-- ==== Sys2Proof/Machine/HostProgram.lean ====
section
/-! DEFINITION. Host programs as scripts of turns (spec/30_encoding.md R56, R57). `Fp` operands are given as
their bit patterns, `bits(f32(x))`. -/

namespace Sys2Proof.Machine

/-- The byte offset of a host register (20_memory.md R32); `reserved` is the first reserved offset. -/
def HostReg.offset : HostReg → Nat
  | .cmd => 0x00
  | .status => 0x04
  | .arg0 => 0x08
  | .arg1 => 0x0C
  | .arg2 => 0x10
  | .result => 0x14
  | .engstate => 0x18
  | .rtdstate => 0x1C
  | .tcstate => 0x20
  | .tcoffset => 0x24
  | .cache => 0x28
  | .muxts => 0x2C
  | .rtdts => 0x30
  | .reserved => 0x34

/-- A command as a host program writes it (R56). An enable or a mask is a number, of which the whole field `C` is
assembled and the command reads its used bits (R47, R54); every other operand is that of `Instr`. -/
inductive Command where
  | instr (i : Instr)
  | rtdSetAuto (en : Byte)
  | rtdSet50Hz (en : Byte)
  | rtdSetBias (en : Byte)
  | tcSetFaultMask (mask : Byte)
  deriving DecidableEq, Repr

/-- The word a command assembles to. -/
def Command.word : Command → Word
  | .instr i => encode i
  | .rtdSetAuto en => mkWord 0x14 0 0 en
  | .rtdSet50Hz en => mkWord 0x15 0 0 en
  | .rtdSetBias en => mkWord 0x16 0 0 en
  | .tcSetFaultMask mask => mkWord 0x21 0 0 mask

/-- A statement or pseudo-instruction of a host program (R56, R57). -/
inductive Stmt where
  /-- `MNEMONIC op, ...` -/
  | cmd (c : Command)
  /-- `W reg, value` -/
  | write (reg : HostReg) (v : Word)
  /-- `R reg` -/
  | read (reg : HostReg)
  | waitDone
  | exec (c : Command)
  | setThresh (lo hi : BitVec 16)
  | setCjOffset (x : Fp)
  | decHot (raw : Word)
  | decCold (raw : Word)
  | peval (t : TableId) (x : Fp)
  | calcRes (raw : Word) (rref : Fp)
  | calcTemp (raw : Word) (rref r0 : Fp)
  | poll (c : Command)
  deriving DecidableEq, Repr

/-- `W reg, value`. -/
def writeTurn (r : HostReg) (v : Word) : Turn := .host (.write r.offset 4 v)

/-- A command statement assembles to one write of its word to `CMD`. -/
def cmdTurn (c : Command) : Turn := writeTurn .cmd c.word

/-- `EXEC <command>`. -/
def execTurns (c : Command) : List Turn := [cmdTurn c, .waitDone]

/-- The host accesses a statement stands for. -/
def Stmt.turns : Stmt → List Turn
  | .cmd c => [cmdTurn c]
  | .write r v => [writeTurn r v]
  | .read r => [.host (.read r.offset 4)]
  | .waitDone => [.waitDone]
  | .exec c => execTurns c
  | .setThresh lo hi => writeTurn .arg0 (hi ++ lo) :: execTurns (.instr .rtdSetThresh)
  | .setCjOffset x => writeTurn .arg0 x :: execTurns (.instr .tcSetCjOffset)
  | .decHot raw => writeTurn .arg0 raw :: execTurns (.instr .tcDecHot)
  | .decCold raw => writeTurn .arg0 raw :: execTurns (.instr .tcDecCold)
  | .peval t x => writeTurn .arg0 x :: execTurns (.instr (.polyEval (.known t)))
  | .calcRes raw rref => writeTurn .arg0 raw :: writeTurn .arg1 rref :: execTurns (.instr .rtdCalcRes)
  | .calcTemp raw rref r0 =>
    writeTurn .arg0 raw :: writeTurn .arg1 rref :: writeTurn .arg2 r0 :: execTurns (.instr .rtdCalcTemp)
  | .poll c => execTurns c ++ [.pollOk c.word]

/-- A host program as a script. -/
def assemble (program : List Stmt) : List Turn := program.flatMap Stmt.turns

end Sys2Proof.Machine
end

