-- ==== Sys2Proof/Safety.lean ====
section
/-! DEFINITION. What counts as a safe run, and the terms claims are stated in: legal configurations, engine steps
in a row, which sequencer positions a command's body has, the errors a command meets at its start, what the set-up
of a selection leaves, the invariant of the machine, and exact values of `FP` patterns. -/

namespace Sys2Proof.Machine

/-! ### Configurations -/

/-- The longest wait a command makes. -/
def Params.longestWait (c : Params) : Nat :=
  max (max (max c.tBias c.tFaultAuto) (max c.tConv60 c.tConv50))
    (max (max c.tAuto60 c.tAuto50) (max c.tSettleTc c.tSettleRtd))

/-- A configuration the rules of the spec are consistent for: `TW` and `NCH` fit the timestamp views and the select
lines (10_state.md R19, R28); every wait ends within one wrap of the clock (70_reset_and_hazards.md R160); the masks
of the persistent bits are those of four different fields (41_rtd_engine.md R69); and no fault-cycle write changes the
wire bit (10_state.md R24). Which conditions these are is a DESIGN CHOICE, notes/assumptions/10.md. -/
def Params.wf (c : Params) : Bool :=
  decide (1 ≤ c.tw ∧ c.tw ≤ 32) && decide (1 ≤ c.nch ∧ c.nch ≤ 3) && decide (c.longestWait < 2 ^ c.tw) &&
    decide (c.cfgBias ≠ 0#8 ∧ c.cfgAuto ≠ 0#8 ∧ c.cfgWire3 ≠ 0#8 ∧ c.cfgFilter50 ≠ 0#8) &&
    decide (c.cfgBias &&& c.cfgAuto = 0#8 ∧ c.cfgBias &&& c.cfgWire3 = 0#8 ∧ c.cfgBias &&& c.cfgFilter50 = 0#8 ∧
      c.cfgAuto &&& c.cfgWire3 = 0#8 ∧ c.cfgAuto &&& c.cfgFilter50 = 0#8 ∧ c.cfgWire3 &&& c.cfgFilter50 = 0#8) &&
    decide (c.cfgWire3 &&& c.fltKeep = c.cfgWire3) &&
    decide (c.cfgWire3 &&& c.fltTrigAuto = 0#8 ∧ c.cfgWire3 &&& c.fltTrigManualRun = 0#8 ∧
      c.cfgWire3 &&& c.fltTrigManualFinish = 0#8)

/-! ### Engine steps in a row -/

/-- `k` engine steps of the command `i` with no other agent's step between them. -/
def engineSteps (i : Instr) : Nat → State → Outcome
  | 0, s => .next s
  | k + 1, s =>
    match exec i s with
    | .next t => engineSteps i k t
    | .fault r => .fault r
    | .refused r => .refused r

/-! ### Sequencer positions -/

/-- The points after a transfer that a command's body has (the `label` of `SeqPos.sent`). -/
def sentPoints : Instr → List Nat
  | .nop => []
  | .spiRd8 _ _ => [1]
  | .spiRd16 _ _ => [1]
  | .spiWr8 _ _ _ => [1]
  | .tcRd32 => [1]
  | .rtdSetType (.known _) => [1]
  | .rtdSetType (.unknown _) => []
  | .rtdSetThresh => [1, 2, 3, 4]
  | .rtdGetLower => [1]
  | .rtdGetUpper => [1]
  | .rtdSetAuto _ => [1]
  | .rtdSet50Hz _ => [1]
  | .rtdSetBias _ => [1]
  | .rtdReadFault (.known .none) => [3]
  | .rtdReadFault (.known .auto) => [1, 3]
  | .rtdReadFault (.known .manualRun) => [1]
  | .rtdReadFault (.known .manualFinish) => [1]
  | .rtdReadFault (.unknown _) => []
  | .rtdClearFault => [1]
  | .rtdRead => [1, 2, 3, 4, 5]
  | .rtdReadAsync => [1, 2, 3, 4, 5]
  | .tcSetType _ => []
  | .tcSetFaultMask _ => []
  | .tcGetLastFault => []
  | .tcSetCjOffset => []
  | .tcDecHot => []
  | .tcDecCold => []
  | .tcReadVolt => [1]
  | .tcReadTemp => [1]
  | .muxSel (.known _) (.known p) => if familyOf p = some .rtd then [1] else []
  | .muxSel _ _ => []
  | .muxSelAsync (.known _) (.known p) => if familyOf p = some .rtd then [1] else []
  | .muxSelAsync _ _ => []
  | .beginTc => [1]
  | .beginRtd => [1, 2, 3, 4, 5, 6, 7]
  | .beginBoth => [1, 2, 3, 4, 5, 6, 7, 8]
  | .endTc => []
  | .endRtd => []
  | .endBoth => []
  | .polyEval _ => []
  | .rtdCalcRes => []
  | .rtdCalcTemp => []

/-- The points at which a command's body may wait (the `label` of `SeqPos.hold`). -/
def holdPoints : Instr → List Nat
  | .rtdSetAuto _ => [2]
  | .rtdReadFault (.known .auto) => [2]
  | .rtdRead => [2, 3]
  | .muxSel (.known _) (.known _) => [2]
  | _ => []

/-- Whether a command's body has a sequencer position. -/
def SeqFits (c : Params) (i : Instr) : SeqPos → Bool
  | .idle => false
  | .start => true
  | .sent label _ _ => decide (label ∈ sentPoints i)
  | .hold label _ d _ => decide (label ∈ holdPoints i) && decide (d ≤ c.longestWait)

/-- Whether a position is past the first step of a body. -/
def SeqPos.begun : SeqPos → Bool
  | .idle => false
  | .start => false
  | .sent _ _ _ => true
  | .hold _ _ _ _ => true

/-- Whether a command opens a sub-driver, so that the shared outputs are configured for it before its flag is set
(44_lifecycle.md R111). -/
def opens : Instr → Bool
  | .beginTc => true
  | .beginRtd => true
  | .beginBoth => true
  | _ => false

/-- Whether a command is a select command. -/
def selects : Instr → Bool
  | .muxSel _ _ => true
  | .muxSelAsync _ _ => true
  | _ => false

/-- Whether the latched command is past its first step and is one of a kind. -/
def State.within (kind : Instr → Bool) (s : State) : Bool :=
  s.seq.begun &&
    match decode s.latch.cmd with
    | .ok i => kind i
    | .error _ => false

/-! ### Errors at the start of a command (60_exceptions.md R136, R137) -/

/-- The table of R136: a code-valued operand outside its table. -/
def badOperand : Instr → Bool
  | .rtdSetType (.unknown _) => true
  | .tcSetType (.unknown _) => true
  | .rtdReadFault (.unknown _) => true
  | .polyEval (.unknown _) => true
  | .muxSel _ (.unknown _) => true
  | .muxSel _ (.known .none) => true
  | .muxSelAsync _ (.unknown _) => true
  | .muxSelAsync _ (.known .none) => true
  | _ => false

/-- The sub-driver a probe type's family needs. -/
def probeNeeds : ProbeType → Option Chip
  | .none => Option.none
  | .tcK => some .tc
  | .tcJ => some .tc
  | .tcT => some .tc
  | .rtd2W => some .rtd
  | .rtd3W => some .rtd

/-- The table of R137: the sub-driver a command needs. -/
def needs : Instr → Option Chip
  | .spiRd8 chip _ => some chip
  | .spiRd16 chip _ => some chip
  | .spiWr8 chip _ _ => some chip
  | .tcRd32 => some .tc
  | .tcReadVolt => some .tc
  | .tcReadTemp => some .tc
  | .rtdSetType _ => some .rtd
  | .rtdSetThresh => some .rtd
  | .rtdGetLower => some .rtd
  | .rtdGetUpper => some .rtd
  | .rtdSetAuto _ => some .rtd
  | .rtdSet50Hz _ => some .rtd
  | .rtdSetBias _ => some .rtd
  | .rtdReadFault _ => some .rtd
  | .rtdClearFault => some .rtd
  | .rtdRead => some .rtd
  | .rtdReadAsync => some .rtd
  | .muxSel _ (.known p) => probeNeeds p
  | .muxSelAsync _ (.known p) => probeNeeds p
  | _ => none

/-- Whether a command needs a sub-driver that is not active. -/
def State.lacks (i : Instr) (s : State) : Bool :=
  match needs i with
  | some .rtd => !s.rtdActive
  | some .tc => !s.tcActive
  | none => false

/-! ### The invariant -/

/-- What holds at reset and is kept by every step. -/
structure State.Inv (s : State) : Prop where
  /-- the configuration is a legal one -/
  config : s.params.wf = true
  /-- the clock and the timestamps have `TW` bits (10_state.md R22, R23, R30) -/
  times : s.now.toNat < 2 ^ s.params.tw ∧ s.muxTs.toNat < 2 ^ s.params.tw ∧ s.rtdTs.toNat < 2 ^ s.params.tw
  /-- `DONE` is 1 exactly when no command executes (10_state.md R16) -/
  done_iff : s.status.done = !s.status.busy
  /-- the sequencer is at "no command" between commands (R20) -/
  idle_iff : s.seq = .idle ↔ s.status.busy = false
  /-- `CMD` is the last accepted word, which the latch holds (R15, R20) -/
  latched : s.cmd = s.latch.cmd
  /-- the position is one of the latched command's body -/
  fits : ∀ i, decode s.latch.cmd = .ok i → s.status.busy = true → SeqFits s.params i s.seq = true
  /-- a word that is no command stands at its start until it fails -/
  unassigned : ∀ e, decode s.latch.cmd = .error e → s.status.busy = true → s.seq = .start
  /-- only the persistent bits are ever 1 in the mirror (R23) -/
  mirror : s.cfg &&& ~~~s.params.cfgPersist = 0#8
  /-- the wire bit mirrors the recorded probe type (R24) -/
  wire : s.wire3 = decide (s.rtdProbe = .rtd3W)
  /-- no line is high before a selection, and exactly that of a channel after one (43_channel_mux.md R103) -/
  lines : match s.curChannel with
    | none => s.sel = 0#3
    | some ch => ∃ rev, s.sel = oneHot (physOf ch rev)
  /-- the shared outputs are configured while a sub-driver is active or opening (44_lifecycle.md R111, R112) -/
  outputs : s.outCfg = (s.tcActive || s.rtdActive || s.within opens)
  /-- a select command past its first step has the outputs configured -/
  selecting : s.within selects = true → s.outCfg = true
  /-- a blocking selection that holds waits for the settle delay of its own probe, since the last change of the
  lines (43_channel_mux.md R109) -/
  holding : ∀ c p fam, decode s.latch.cmd = .ok (.muxSel c (.known p)) → familyOf p = some fam →
    ∀ label t0 d flag, s.seq = .hold label t0 d flag →
      t0 = s.muxTs ∧ d = s.params.settle fam ∧ s.muxState = .switching
  /-- the multiplexer has no state while the outputs are released (R112) -/
  released : s.outCfg = false →
    s.sel = 0#3 ∧ s.route = false ∧ s.curChannel = none ∧ s.muxState = .selected ∧ s.muxTs = 0#32 ∧
      s.cache = { ch0 := .none, ch1 := .none, ch2 := .none }
  /-- no chip select is low between two steps: a transaction is atomic (00_scope.md R10) -/
  chipSelects : s.csRtd ≠ .low ∧ s.csTc ≠ .low

/-! ### What a program owes (70_reset_and_hazards.md) -/

/-- The delay a program owes between the two manual fault commands has passed since `t0` (R159); the TPE does not
check it. -/
def State.manualDelayKept (t0 : Word) (s : State) : Prop := s.params.tManualFault ≤ s.elapsed t0

/-- The mux has settled (R155 step 3, R165); no rule stops a reading before that. -/
def State.muxSettled (s : State) : Prop := s.muxState = .selected

/-- The number of SPI transactions in a piece of the trace. -/
def spiCount : List Event → Nat
  | [] => 0
  | .spi _ _ _ :: es => spiCount es + 1
  | .busBegin _ _ _ :: es => spiCount es
  | .busEnd _ :: es => spiCount es
  | .pin _ _ :: es => spiCount es

/-- The SPI transactions in a piece of the trace, in order. -/
def spiOnly : List Event → List Event
  | [] => []
  | .spi chip mosi miso :: es => .spi chip mosi miso :: spiOnly es
  | .busBegin _ _ _ :: es => spiOnly es
  | .busEnd _ :: es => spiOnly es
  | .pin _ _ :: es => spiOnly es

/-! ### What the set-up of a selection leaves (43_channel_mux.md R106) -/

/-- Whether the set-up reprograms: the channel is new, or the probe is not the one cached for it. -/
def State.reprograms (ch : Channel) (p : ProbeType) (s : State) : Bool :=
  decide (s.curChannel ≠ some ch) || decide (s.cache.get ch ≠ p)

/-- `t` holds what `Setup` and the driven lines leave of `s`: the route, the channel and its cache entry, the line of
the channel, and, exactly where the set-up reprograms, the probe of its family (with the wire bit of the mirror and
one write of it for an RTD probe). The switch, the status, the position and the pin entries of the trace are left to
the statement; everything else is unchanged. -/
def SetUp (ch : Channel) (p : ProbeType) (fam : Family) (s t : State) : Prop :=
  let rtd : Bool := s.reprograms ch p && decide (fam = .rtd)
  let tc : Bool := s.reprograms ch p && decide (fam = .tc)
  let cfg : Byte := if p = .rtd3W then s.cfg ||| s.params.cfgWire3 else s.cfg &&& ~~~s.params.cfgWire3
  t.route = (match fam with | .rtd => s.params.routeRtdLevel | .tc => !s.params.routeRtdLevel) ∧
  t.curChannel = some ch ∧ t.cache.get ch = p ∧ (∀ ch', ch' ≠ ch → t.cache.get ch' = s.cache.get ch') ∧
  t.sel = oneHot (physOf ch s.reverse) ∧
  t.cfg = (if rtd then cfg else s.cfg) ∧ t.rtdProbe = (if rtd then p else s.rtdProbe) ∧
  t.tcProbe = (if tc then p else s.tcProbe) ∧ t.csRtd = (if rtd then .high else s.csRtd) ∧
  (rtd = false → t.sclk = s.sclk ∧ t.mosi = s.mosi) ∧
  (∃ es, t.trace = s.trace ++ es ∧
    spiOnly es = if rtd then [.spi .rtd [s.params.rtdAddrConfig ||| 0x80#8, cfg] (s.miso 2)] else []) ∧
  t = { s with
        route := t.route, curChannel := t.curChannel, cache := t.cache, sel := t.sel, cfg := t.cfg
        rtdProbe := t.rtdProbe, tcProbe := t.tcProbe, csRtd := t.csRtd, sclk := t.sclk, mosi := t.mosi
        misoIn := s.misoIn.drop (if rtd then 2 else 0), freeCount := s.freeCount + (if rtd then 2 else 0)
        muxState := t.muxState, muxTs := t.muxTs, status := t.status, seq := t.seq, trace := t.trace }

/-- The engine steps of a selection up to the driven lines: two where it reprograms an RTD probe, and otherwise one. -/
def State.setUpSteps (ch : Channel) (p : ProbeType) (fam : Family) (s : State) : Nat :=
  if s.reprograms ch p && decide (fam = .rtd) then 2 else 1

end Sys2Proof.Machine

namespace Sys2Proof

/-- The exact value of a finite pattern in units of `2^-149`, the smallest positive value. -/
def Fp.scaled (x : Fp) : Option Int :=
  match x.unpack with
  | .nan => none
  | .inf _ => none
  | .fin neg m e => some (Fp.signed neg m (e + 149).toNat)

end Sys2Proof
end

