-- ==== Sys2Proof/Certificates/Slice0/Obligations.lean ====
section
/-! DEFINITION. The statements for the provers (OBLIGATIONS.json lists them with the rules of spec/ they
formalise). A record `{ s with … }` in a conclusion is also the frame: every field it does not name is
unchanged. The TPE has no data memory (spec/20_memory.md), so there is no memory clause. -/

open Sys2Proof Sys2Proof.Machine

/-! ### Encoding -/

/-- Decoding the word of a well-formed command gives that command (R46 to R52). -/
def Obligations.DecodeOfEncode : Prop :=
  ∀ i : Instr, i.wf = true → decode (encode i) = .ok i

/-- Every decoded command is well formed, and encoding it gives the word's used bits (R47, R52, R54). -/
def Obligations.EncodeOfDecode : Prop :=
  ∀ (w : Word) (i : Instr), decode w = .ok i → i.wf = true ∧ encode i = w &&& i.usedBits

/-- R54: words that agree on the bits a command uses are the same command. -/
def Obligations.UnusedBitsIgnored : Prop :=
  ∀ (w w' : Word) (i : Instr), decode w = .ok i → w' &&& i.usedBits = w &&& i.usedBits → decode w' = .ok i

/-- R135 (and R53): a word is no command exactly when its opcode lies in the listed ranges, whatever its other fields;
such a word is accepted and then ends with `ERR_ILLEGAL` and no other effect. -/
def Obligations.UnassignedOpcodeFails : Prop :=
  (∀ w : Word, (∃ e, decode w = .error e) ↔
    ((0x05 ≤ (opcOf w).toNat ∧ (opcOf w).toNat ≤ 0x0F) ∨ (0x1B ≤ (opcOf w).toNat ∧ (opcOf w).toNat ≤ 0x1F) ∨
      (0x28 ≤ (opcOf w).toNat ∧ (opcOf w).toNat ≤ 0x2F) ∨ (0x32 ≤ (opcOf w).toNat ∧ (opcOf w).toNat ≤ 0x3F) ∨
      (0x46 ≤ (opcOf w).toNat ∧ (opcOf w).toNat ≤ 0x4F) ∨ 0x53 ≤ (opcOf w).toNat)) ∧
  (∀ (s : State) (w : Word) (e : DecodeError),
    s.status.busy = false → s.rst = false → decode w = .error e →
    takeTurn (.host (.write 0x00 4 w)) s = .next (s.accept w) ∧
    takeTurn .engine (s.accept w) = .next
      { s.accept w with
        status := { busy := false, done := true, ok := false, errIllegal := true, errArg := false,
                    errInactive := false, ovr := s.status.ovr }
        seq := .idle })

/-- The words R56 writes out as examples are the commands it names, both ways, and the opcode alone selects
(30_encoding.md R52, test vectors E4 and T5); a command statement assembles to one write of its word to `CMD`, a mask
number in the whole of its field (test vector C15). -/
def Obligations.ExampleWordsDecode : Prop :=
  decode 0x01000700#32 = .ok (.spiRd8 .rtd 0x07) ∧ encode (.spiRd8 .rtd 0x07) = 0x01000700#32 ∧
  decode 0x30010500#32 = .ok (.muxSel (.known .ch1) (.known .rtd3W)) ∧
  encode (.muxSel (.known .ch1) (.known .rtd3W)) = 0x30010500#32 ∧
  decode 0x16000001#32 = .ok (.rtdSetBias true) ∧ encode (.rtdSetBias true) = 0x16000001#32 ∧
  decode 0x17010000#32 = .ok (.rtdReadFault (.known .auto)) ∧
  encode (.rtdReadFault (.known .auto)) = 0x17010000#32 ∧
  decode 0x50030000#32 = .ok (.polyEval (.known .invK)) ∧ encode (.polyEval (.known .invK)) = 0x50030000#32 ∧
  decode 0x00FFFFFF#32 = .ok .nop ∧ decode 0x01FE0700#32 = .ok (.spiRd8 .rtd 0x07) ∧
  decode 0x210000F1#32 = .ok (.tcSetFaultMask 0x1) ∧
  assemble [.cmd (.instr (.muxSel (.known .ch1) (.known .rtd3W))), .cmd (.rtdSetBias 1), .cmd (.tcSetFaultMask 0xF1)] =
    [.host (.write 0x00 4 0x30010500#32), .host (.write 0x00 4 0x16000001#32), .host (.write 0x00 4 0x210000F1#32)]

/-! ### Steps of the agents -/

/-- R12, R20: when the engine moves and the latched word decodes to `i`, the step is `exec i`. That the engine is the
agent that moves when the script is at its end and it can is the model's own schedule (DESIGN CHOICE,
notes/assumptions/2.md): no rule of the spec says which agent moves next. -/
def Obligations.StepRunsDecodedCommand : Prop :=
  ∀ (s : State) (i : Instr), s.rst = false → s.status.busy = true → decode s.latch.cmd = .ok i →
    (∀ ts, s.turns = .engine :: ts → step s = exec i { s with turns := ts }) ∧
    (s.turns = [] → s.engineReady = true → step s = exec i s)

/-- R15: what a write to `CMD` and a read of it do, while a command executes and while none does. -/
def Obligations.CmdSubmission : Prop :=
  State.reset.cmd = 0x00000000#32 ∧
  ∀ (s : State) (w : Word), s.rst = false →
    takeTurn (.host (.read 0x00 4)) s = .next { s with hostData := some s.cmd } ∧
    (s.status.busy = false →
      takeTurn (.host (.write 0x00 4 w)) s = .next
        { s with
          cmd := w
          latch := { cmd := w, arg0 := s.arg0, arg1 := s.arg1, arg2 := s.arg2 }
          status := { s.status with busy := true, done := false, ok := false, errIllegal := false,
                                    errArg := false, errInactive := false }
          seq := .start }) ∧
    (s.status.busy = true →
      takeTurn (.host (.write 0x00 4 w)) s = .next { s with status := { s.status with ovr := true } })

/-- R139: a `CMD` write while `BUSY` is dropped and sets `OVR`, and changes nothing else. `OVR` becomes 1 in no other
step, and 0 only by a host write to `STATUS` with bit 8 set (R16) or by reset (R153, R154). That reset takes effect in
the step that asserts `RST` is the model's choice (DESIGN CHOICE, notes/assumptions/8.md). -/
def Obligations.OverrunIsSticky : Prop :=
  (∀ (s : State) (w : Word) (ts : List Turn), s.rst = false → s.status.busy = true →
    s.turns = .host (.write 0x00 4 w) :: ts →
    step s = .next { s with turns := ts, status := { s.status with ovr := true } }) ∧
  ∀ s t : State, step s = .next t →
    (s.status.ovr = false → t.status.ovr = true →
      s.status.busy = true ∧ ∃ w ts, s.turns = .host (.write 0x00 4 w) :: ts ∧
        t = { s with turns := ts, status := { s.status with ovr := true } }) ∧
    (s.status.ovr = true → t.status.ovr = false →
      (∃ v ts, s.turns = .host (.write 0x04 4 v) :: ts ∧ v.getLsbD 8 = true) ∨ ∃ ts, s.turns = .reset true :: ts)

/-- R16: the word of `STATUS`, bit by bit, and a host write to it. -/
def Obligations.StatusRegister : Prop :=
  (∀ st : Status,
    st.word.getLsbD 0 = st.busy ∧ st.word.getLsbD 1 = st.done ∧ st.word.getLsbD 2 = st.ok ∧
    st.word.getLsbD 3 = st.errIllegal ∧ st.word.getLsbD 4 = st.errArg ∧ st.word.getLsbD 5 = st.errInactive ∧
    st.word.getLsbD 8 = st.ovr ∧
    ∀ n, n = 6 ∨ n = 7 ∨ 9 ≤ n → st.word.getLsbD n = false) ∧
  ∀ (s : State) (v : Word), s.rst = false →
    takeTurn (.host (.read 0x04 4)) s = .next { s with hostData := some s.status.word } ∧
    takeTurn (.host (.write 0x04 4 v)) s = .next
      { s with status := { s.status with ovr := s.status.ovr && !v.getLsbD 8 } }

/-- R34: a host read changes nothing but what the host receives, and a host write to a register other than `CMD`,
`STATUS` and `ARG0` to `ARG2` is ignored. -/
def Obligations.HostAccessEffects : Prop :=
  ∀ (s : State) (off : Nat) (v : Word), s.rst = false → off % 4 = 0 → off < 0x40 →
    (∃ r, hostReg off = some r ∧ takeTurn (.host (.read off 4)) s = .next { s with hostData := some (s.hostRead r) }) ∧
    (0x14 ≤ off → takeTurn (.host (.write off 4 v)) s = .next s) ∧
    takeTurn (.host (.write 0x08 4 v)) s = .next { s with arg0 := v } ∧
    takeTurn (.host (.write 0x0C 4 v)) s = .next { s with arg1 := v } ∧
    takeTurn (.host (.write 0x10 4 v)) s = .next { s with arg2 := v }

/-- R32, R17, R18, R19: which word each offset of the register block reads, with the fields of the views and the codes
they show: `rtdState` as 0, 1, 2, a probe type by its code of R48, a channel as 0, 1, 2 and no channel as -1. -/
def Obligations.RegisterBlockReads : Prop :=
  ∀ s : State, s.rst = false →
    let code (p : ProbeType) : BitVec 4 :=
      match p with | .none => 0#4 | .tcK => 1#4 | .tcJ => 2#4 | .tcT => 3#4 | .rtd2W => 4#4 | .rtd3W => 5#4
    let reads (off : Nat) (w : Word) : Prop := takeTurn (.host (.read off 4)) s = .next { s with hostData := some w }
    reads 0x00 s.cmd ∧ reads 0x04 s.status.word ∧ reads 0x08 s.arg0 ∧ reads 0x0C s.arg1 ∧ reads 0x10 s.arg2 ∧
    reads 0x14 s.result ∧ reads 0x18 s.engstate ∧ reads 0x1C s.rtdstate ∧ reads 0x20 s.tcstate ∧
    reads 0x24 s.tcOffset ∧ reads 0x28 s.cacheWord ∧ reads 0x2C s.muxTs ∧ reads 0x30 s.rtdTs ∧
    reads 0x34 0#32 ∧ reads 0x38 0#32 ∧ reads 0x3C 0#32 ∧
    s.engstate.getLsbD 0 = s.tcActive ∧ s.engstate.getLsbD 1 = s.rtdActive ∧ s.engstate.getLsbD 2 = s.outCfg ∧
    s.engstate.getLsbD 3 = decide (s.muxState = .switching) ∧
    s.engstate.extractLsb' 4 2 = (match s.rtdState with | .idle => 0#2 | .settling => 1#2 | .converting => 2#2) ∧
    s.engstate.extractLsb' 6 2 = 0#2 ∧
    s.engstate.extractLsb' 8 8 = (match s.curChannel with
      | some .ch0 => 0x00#8 | some .ch1 => 0x01#8 | some .ch2 => 0x02#8 | none => 0xFF#8) ∧
    s.engstate.extractLsb' 16 3 = (if s.outCfg then s.sel else 0#3) ∧
    s.engstate.getLsbD 19 = (s.outCfg && s.route) ∧ s.engstate.getLsbD 20 = s.reverse ∧
    s.engstate.extractLsb' 21 11 = 0#11 ∧
    s.rtdstate.extractLsb' 0 8 = s.cfg ∧ s.rtdstate.extractLsb' 8 4 = code s.rtdProbe ∧
    s.rtdstate.extractLsb' 12 20 = 0#20 ∧
    s.tcstate.extractLsb' 0 4 = code s.tcProbe ∧ s.tcstate.extractLsb' 4 4 = 0#4 ∧
    s.tcstate.extractLsb' 8 4 = s.tcMask ∧ s.tcstate.extractLsb' 12 4 = 0#4 ∧
    s.tcstate.extractLsb' 16 4 = s.tcLastFault ∧ s.tcstate.extractLsb' 20 12 = 0#12 ∧
    s.cacheWord.extractLsb' 0 4 = code s.cache.ch0 ∧ s.cacheWord.extractLsb' 4 4 = code s.cache.ch1 ∧
    s.cacheWord.extractLsb' 8 4 = code s.cache.ch2 ∧ s.cacheWord.extractLsb' 12 20 = 0#20

/-- R33, R140: an access that is not 4 bytes wide, not aligned, or outside the block is refused, whatever it is. -/
def Obligations.OtherAccessesRefused : Prop :=
  ∀ (s : State) (off width : Nat) (v : Word), (width ≠ 4 ∨ off % 4 ≠ 0 ∨ 0x40 ≤ off) →
    (∃ why, takeTurn (.host (.read off width)) s = .refused why) ∧
    ∃ why, takeTurn (.host (.write off width v)) s = .refused why

/-- R154: the reset value of every element and view that has one, in every configuration; the reset state of the default
configuration has the values R154 writes out for its two parameters. -/
def Obligations.ResetValues : Prop :=
  (∀ c : Params, let s := State.resetWith c
  s.params = c ∧ s.cmd = 0#32 ∧ s.status.word = 0x00000002#32 ∧ s.arg0 = 0#32 ∧ s.arg1 = 0#32 ∧ s.arg2 = 0#32 ∧
  s.result = 0#32 ∧ s.seq = .idle ∧ s.latch = ⟨0#32, 0#32, 0#32, 0#32⟩ ∧
  s.tcActive = false ∧ s.rtdActive = false ∧ s.outCfg = false ∧
  s.curChannel = none ∧ s.cache = ⟨.none, .none, .none⟩ ∧ s.sel = 0#3 ∧ s.route = false ∧
  s.muxState = .selected ∧ s.muxTs = 0#32 ∧
  s.cfg = 0x00#8 ∧ s.rtdProbe = .none ∧ s.rtdState = .idle ∧ s.rtdTs = 0#32 ∧ s.rtdAsyncBiasWasOn = false ∧
  s.tcProbe = .none ∧ s.tcMask = c.tcFaultMaskReset ∧ s.tcOffset = c.tcCjOffsetReset ∧ s.tcLastFault = 0#4 ∧
  s.csRtd = .z ∧ s.csTc = .z ∧ s.sclk = false ∧ s.pinSel = 0#3 ∧ s.pinRoute = false ∧
  s.engstate = (if s.reverse then 0x0010FF00#32 else 0x0000FF00#32) ∧
  s.rtdstate = 0#32 ∧ s.cacheWord = 0#32) ∧
  State.reset = State.resetWith Params.default ∧
  State.reset.tcMask = 0x7#4 ∧ State.reset.tcOffset = 0x40066666#32 ∧ State.reset.tcstate = 0x00000700#32

/-- R152, R153 and notes/assumptions/8.md (the model's choice: the elements take their reset values when `RST` is
asserted). Asserting `RST` keeps the clock, the inputs and the trace; the engine then takes no step and host accesses
are refused, and deassertion changes nothing else. With no command executing, an engine step changes nothing. -/
def Obligations.ResetAndIdle : Prop :=
  (∀ s : State, s.status.busy = false → takeTurn .engine s = .next s) ∧
  ∀ s : State, ∃ t, takeTurn (.reset true) s = .next t ∧
    t = { State.resetWith s.params with
          mosi := t.mosi, now := s.now, reverse := s.reverse, rst := true, trace := s.trace, turns := s.turns,
          misoIn := s.misoIn, freeCount := s.freeCount, hostData := s.hostData } ∧
    (∀ x : State, x.rst = true → takeTurn .engine x = .next x) ∧
    (∀ off width, takeTurn (.host (.read off width)) t = .refused .accessInReset) ∧
    (∀ off width v, takeTurn (.host (.write off width v)) t = .refused .accessInReset) ∧
    takeTurn (.reset false) t = .next { t with rst := false }

/-- R30: a clock step adds 1 mod `2^TW`, and no other agent's step changes `now`. -/
def Obligations.OnlyClockAdvancesTime : Prop :=
  (∀ s : State, takeTurn .clock s = .next { s with now := BitVec.ofNat 32 ((s.now.toNat + 1) % 2 ^ s.params.tw) }) ∧
  ∀ (turn : Turn) (s t : State), turn ≠ .clock → takeTurn turn s = .next t → t.now = s.now

/-! ### Every engine step -/

/-- R14, R42, R5: an engine step never writes `CMD`, the `ARG` registers, the latch, the inputs, `OVR`, the
configuration, or what the host has received, and never touches the script; and it does not read the `ARG`
registers, so that a host write to one does not affect the command in progress. -/
def Obligations.EngineLeavesHostAndInputs : Prop :=
  (∀ (i : Instr) (s t : State), exec i s = .next t →
    t.cmd = s.cmd ∧ t.arg0 = s.arg0 ∧ t.arg1 = s.arg1 ∧ t.arg2 = s.arg2 ∧ t.latch = s.latch ∧
    t.now = s.now ∧ t.reverse = s.reverse ∧ t.rst = s.rst ∧ t.status.ovr = s.status.ovr ∧
    t.hostData = s.hostData ∧ t.turns = s.turns ∧ t.params = s.params) ∧
  ∀ (i : Instr) (s t : State) (a0 a1 a2 : Word), exec i s = .next t →
    exec i { s with arg0 := a0, arg1 := a1, arg2 := a2 } = .next { t with arg0 := a0, arg1 := a1, arg2 := a2 }

/-- R14, R52, R134: `RESULT` changes only in the step in which a command whose row of R52 has a RESULT ends with
`OK`. -/
def Obligations.ResultWrittenOnSuccessOnly : Prop :=
  ∀ (i : Instr) (s t : State), exec i s = .next t → t.result ≠ s.result →
    t.seq = .idle ∧ t.status.ok = true ∧ t.status.done = true ∧ t.status.busy = false ∧
    match i with
    | .spiRd8 _ _ | .spiRd16 _ _ | .tcRd32 | .rtdGetLower | .rtdGetUpper | .rtdReadFault _ | .rtdRead
    | .rtdReadAsync | .tcGetLastFault | .tcDecHot | .tcDecCold | .tcReadVolt | .tcReadTemp | .polyEval _
    | .rtdCalcRes | .rtdCalcTemp => True
    | _ => False

/-- R12, R39: an engine step makes at most one SPI transaction and only adds to the trace. -/
def Obligations.OneTransferPerStep : Prop :=
  ∀ (i : Instr) (s t : State), exec i s = .next t →
    ∃ es, t.trace = s.trace ++ es ∧ spiCount es ≤ 1

/-- R136, R137, R138: which error a command ends with at its start, with nothing else changed; with none it takes its
first step and sets no error bit; and past its start no command sets an error bit. -/
def Obligations.CommandErrors : Prop :=
  (∀ (i : Instr) (s : State), s.seq = .start →
    (badOperand i = true → exec i s = .next
      { s with seq := .idle, status := { s.status with busy := false, done := true, ok := false, errArg := true } }) ∧
    (badOperand i = false → s.lacks i = true → exec i s = .next
      { s with
        seq := .idle
        status := { s.status with busy := false, done := true, ok := false, errInactive := true } }) ∧
    (badOperand i = false → s.lacks i = false → ∃ t, exec i s = .next t ∧
      t.status.errIllegal = s.status.errIllegal ∧ t.status.errArg = s.status.errArg ∧
      t.status.errInactive = s.status.errInactive)) ∧
  ∀ (i : Instr) (s t : State), s.seq ≠ .start → exec i s = .next t →
    t.status.errIllegal = s.status.errIllegal ∧ t.status.errArg = s.status.errArg ∧
    t.status.errInactive = s.status.errInactive

/-- Which commands may write which part of the engine's state: every other command leaves it as it is. A chip select
changes only by a transaction of its chip in that step, or by a command that opens or closes its sub-driver (R28). -/
def Obligations.WhoWritesWhat : Prop :=
  ∀ (i : Instr) (s t : State), exec i s = .next t →
    (t.tcProbe ≠ s.tcProbe → (match i with | .tcSetType _ | .muxSel _ _ | .muxSelAsync _ _ => True | _ => False)) ∧
    (t.tcMask ≠ s.tcMask → (match i with | .tcSetFaultMask _ => True | _ => False)) ∧
    (t.tcOffset ≠ s.tcOffset → i = .tcSetCjOffset) ∧
    (t.tcLastFault ≠ s.tcLastFault → i = .tcGetLastFault ∨ i = .tcReadVolt ∨ i = .tcReadTemp) ∧
    (t.tcActive ≠ s.tcActive → i = .beginTc ∨ i = .beginBoth ∨ i = .endTc ∨ i = .endBoth) ∧
    (t.rtdActive ≠ s.rtdActive → i = .beginRtd ∨ i = .beginBoth ∨ i = .endRtd ∨ i = .endBoth) ∧
    (t.rtdState ≠ s.rtdState → i = .rtdReadAsync ∨ i = .beginRtd ∨ i = .beginBoth ∨ i = .endRtd ∨ i = .endBoth) ∧
    (t.cfg ≠ s.cfg →
      (match i with
        | .rtdSetType _ | .rtdSetAuto _ | .rtdSet50Hz _ | .rtdSetBias _ | .rtdReadFault _ | .rtdRead
        | .rtdReadAsync | .muxSel _ _ | .muxSelAsync _ _ | .beginRtd | .beginBoth => True
        | _ => False)) ∧
    (t.rtdProbe ≠ s.rtdProbe →
      (match i with
        | .rtdSetType _ | .muxSel _ _ | .muxSelAsync _ _ | .beginRtd | .beginBoth => True
        | _ => False)) ∧
    (t.rtdTs ≠ s.rtdTs ∨ t.rtdAsyncBiasWasOn ≠ s.rtdAsyncBiasWasOn →
      i = .rtdReadAsync ∨ i = .beginRtd ∨ i = .beginBoth) ∧
    (t.csRtd ≠ s.csRtd →
      (t.csRtd = .high ∧ ∃ es mosi miso, t.trace = s.trace ++ es ∧ spiOnly es = [.spi .rtd mosi miso]) ∨
        i = .beginRtd ∨ i = .beginBoth ∨ i = .endRtd ∨ i = .endBoth) ∧
    (t.csTc ≠ s.csTc →
      (t.csTc = .high ∧ ∃ es mosi miso, t.trace = s.trace ++ es ∧ spiOnly es = [.spi .tc mosi miso]) ∨
        i = .beginTc ∨ i = .beginBoth ∨ i = .endTc ∨ i = .endBoth) ∧
    (t.outCfg ≠ s.outCfg → (match i with
        | .beginTc | .beginRtd | .beginBoth | .endTc | .endRtd | .endBoth => True
        | _ => False)) ∧
    ((t.sel ≠ s.sel ∨ t.route ≠ s.route ∨ t.curChannel ≠ s.curChannel ∨ t.cache ≠ s.cache ∨
        t.muxState ≠ s.muxState ∨ t.muxTs ≠ s.muxTs) →
      (match i with
        | .muxSel _ _ | .muxSelAsync _ _ | .beginTc | .beginRtd | .beginBoth | .endTc | .endRtd | .endBoth => True
        | _ => False))

/-- R9: while a wait holds, an engine step changes nothing; once the time has passed, it goes on. -/
def Obligations.WaitHolds : Prop :=
  ∀ (i : Instr) (s : State) (label d : Nat) (t0 : Word) (flag : Bool),
    s.seq = .hold label t0 d flag → SeqFits s.params i s.seq = true →
    ((s.now - t0).toNat % 2 ^ s.params.tw < d → exec i s = .next s) ∧
    (d ≤ (s.now - t0).toNat % 2 ^ s.params.tw → ∃ t, exec i s = .next t ∧ t.seq ≠ s.seq)

/-- R10, R28: what one transaction does to the pins and the trace, for either chip, and that the oracle may answer
any bytes. R28 says that SCLK rests at 0 in modes 0 and 1; that it rests at 1 in a mode from 2 upward is general
knowledge (PRESUMED, notes/assumptions/13.md). R10 appends the one `SpiEvent`; that a transaction is five trace
entries, with the bus brackets and the chip select as entries of their own in the order of R10's steps, is the model's
choice (DESIGN CHOICE, notes/assumptions/16.md). -/
def Obligations.SpiTransaction : Prop :=
  (∀ (s : State) (mosi : List Byte),
    (s.spiXfer .rtd mosi).csRtd = .high ∧ (s.spiXfer .rtd mosi).csTc = s.csTc ∧
    (s.spiXfer .tc mosi).csTc = .high ∧ (s.spiXfer .tc mosi).csRtd = s.csRtd ∧
    (s.spiXfer .rtd mosi).trace = s.trace ++
      [.busBegin .rtd s.params.rtdSclkHz s.params.rtdSpiMode, .pin .csRtd .low,
       .spi .rtd mosi (s.miso mosi.length), .pin .csRtd .high, .busEnd .rtd] ∧
    (s.spiXfer .tc mosi).trace = s.trace ++
      [.busBegin .tc s.params.tcSclkHz s.params.tcSpiMode, .pin .csTc .low,
       .spi .tc mosi (s.miso mosi.length), .pin .csTc .high, .busEnd .tc]) ∧
  (∀ (chip : Chip) (s : State) (mosi : List Byte),
    (s.spiXfer chip mosi).sclk =
      decide (2 ≤ (match chip with | .rtd => s.params.rtdSpiMode | .tc => s.params.tcSpiMode)) ∧
    s.spiXfer chip mosi =
      { s with
        csRtd := (s.spiXfer chip mosi).csRtd, csTc := (s.spiXfer chip mosi).csTc
        sclk := (s.spiXfer chip mosi).sclk
        mosi := (s.spiXfer chip mosi).mosi, misoIn := s.misoIn.drop mosi.length
        freeCount := s.freeCount + mosi.length, trace := (s.spiXfer chip mosi).trace }) ∧
  ∀ (s : State) (bytes rest : List Byte), ({ s with misoIn := bytes ++ rest } : State).miso bytes.length = bytes

/-! ### Bus transport -/

/-- R63: the all-zero word is `NOP`, which completes with `OK` and does nothing else. -/
def Obligations.NopCompletes : Prop :=
  decode 0x00000000#32 = .ok .nop ∧
  ∀ s : State, s.seq = .start →
    exec .nop s = .next { s with seq := .idle, status := { s.status with busy := false, done := true, ok := true } }

/-- R64, R65, R67 with R59, R60, R62: the raw reads of an active chip make one transaction and return the data bytes
the chip answered, the first the most significant; `TC_RD32` returns all four as received and latches no fault. -/
def Obligations.RawReadsComplete : Prop :=
  ∀ (s : State) (chip : Chip) (addr : Byte) (m0 m1 m2 m3 : Byte), s.seq = .start → s.chipActive chip = true →
    (s.miso 2 = [m0, m1] → ∃ u, exec (.spiRd8 chip addr) s = .next u ∧ exec (.spiRd8 chip addr) u = .next
      { s.spiXfer chip [addr &&& 0x7F#8, s.params.fill] with
        result := m1.setWidth 32
        seq := .idle, status := { s.status with busy := false, done := true, ok := true } }) ∧
    (s.miso 3 = [m0, m1, m2] → ∃ u, exec (.spiRd16 chip addr) s = .next u ∧ exec (.spiRd16 chip addr) u = .next
      { s.spiXfer chip [addr &&& 0x7F#8, s.params.fill, s.params.fill] with
        result := (m1 ++ m2).setWidth 32
        seq := .idle, status := { s.status with busy := false, done := true, ok := true } }) ∧
    (chip = .tc → s.miso 4 = [m0, m1, m2, m3] → ∃ u, exec .tcRd32 s = .next u ∧ exec .tcRd32 u = .next
      { s.spiXfer .tc [s.params.fill, s.params.fill, s.params.fill, s.params.fill] with
        result := m0 ++ m1 ++ m2 ++ m3
        seq := .idle, status := { s.status with busy := false, done := true, ok := true } })

/-- R66 with R61, R158: a raw write makes one transaction with bit 7 of the address forced to 1; `RESULT` and the
mirror are unchanged. -/
def Obligations.RawWriteCompletes : Prop :=
  ∀ (s : State) (chip : Chip) (addr value : Byte), s.seq = .start → s.chipActive chip = true →
    ∃ u, exec (.spiWr8 chip addr value) s = .next u ∧ exec (.spiWr8 chip addr value) u = .next
      { s.spiXfer chip [addr ||| 0x80#8, value] with
        seq := .idle, status := { s.status with busy := false, done := true, ok := true } }

/-! ### RTD engine -/

/-- R74, R79, R80, R82 with R71: each setter writes the new mirror, and `RTD_CLEAR_FAULT` the old one with the clear
strobe, in one transaction to the config register. -/
def Obligations.RtdSettersComplete : Prop :=
  ∀ (s : State) (p : ProbeType) (en : Bool), s.seq = .start → s.rtdActive = true →
    let runs (i : Instr) (t : State) (byte : Byte) : Prop :=
      ∃ u, exec i s = .next u ∧ exec i u = .next
        { t.spiXfer .rtd [s.params.rtdAddrConfig ||| 0x80#8, byte] with
          seq := .idle, status := { s.status with busy := false, done := true, ok := true } }
    let wire : Byte := if p = .rtd3W then s.cfg ||| s.params.cfgWire3 else s.cfg &&& ~~~s.params.cfgWire3
    let filter : Byte := if en then s.cfg ||| s.params.cfgFilter50 else s.cfg &&& ~~~s.params.cfgFilter50
    let bias : Byte := if en then s.cfg ||| s.params.cfgBias else s.cfg &&& ~~~s.params.cfgBias
    runs (.rtdSetType (.known p)) { s with cfg := wire, rtdProbe := p } wire ∧
    runs (.rtdSet50Hz en) { s with cfg := filter } filter ∧
    runs (.rtdSetBias en) { s with cfg := bias } bias ∧
    runs .rtdClearFault s (s.cfg ||| s.params.cfgFclear)

/-- R75, R76, R77: the four threshold writes, in order, and the two threshold reads, with nothing else changed. -/
def Obligations.ThresholdCommandsComplete : Prop :=
  ∀ s : State, s.seq = .start → s.rtdActive = true →
    let ended : Status := { s.status with busy := false, done := true, ok := true }
    (∃ u, exec .rtdSetThresh s = .next u) ∧
    engineSteps .rtdSetThresh 5 s = .next
      { (((s.spiXfer .rtd [s.params.rtdAddrLftMsb ||| 0x80#8, s.latch.arg0.extractLsb' 8 8]).spiXfer .rtd
          [s.params.rtdAddrLftLsb ||| 0x80#8, s.latch.arg0.extractLsb' 0 8]).spiXfer .rtd
          [s.params.rtdAddrHftMsb ||| 0x80#8, s.latch.arg0.extractLsb' 24 8]).spiXfer .rtd
          [s.params.rtdAddrHftLsb ||| 0x80#8, s.latch.arg0.extractLsb' 16 8] with
        seq := .idle, status := ended } ∧
    ∀ m0 m1 m2 : Byte, s.miso 3 = [m0, m1, m2] →
      (∃ u, exec .rtdGetLower s = .next u ∧ exec .rtdGetLower u = .next
        { s.spiXfer .rtd [s.params.rtdAddrLftMsb &&& 0x7F#8, s.params.fill, s.params.fill] with
          result := (m1 ++ m2).setWidth 32, seq := .idle, status := ended }) ∧
      ∃ u, exec .rtdGetUpper s = .next u ∧ exec .rtdGetUpper u = .next
        { s.spiXfer .rtd [s.params.rtdAddrHftMsb &&& 0x7F#8, s.params.fill, s.params.fill] with
          result := (m1 ++ m2).setWidth 32, seq := .idle, status := ended }

/-- R78, R72, R9: `RTD_SET_AUTO` writes the mirror; on the transition from disabled to enabled it then holds for
`T_AUTO_50` with the 50 Hz filter and `T_AUTO_60` without, and in every other case, and where that time is 0, it ends
at once. That entering a wait is an engine step of its own is the model's reading of R12 (DEDUCED,
notes/assumptions/7.md). -/
def Obligations.SetAutoCompletes : Prop :=
  ∀ (s : State) (en : Bool), s.seq = .start → s.rtdActive = true →
    let cfg : Byte := if en then s.cfg ||| s.params.cfgAuto else s.cfg &&& ~~~s.params.cfgAuto
    let sent : State := ({ s with cfg := cfg } : State).spiXfer .rtd [s.params.rtdAddrConfig ||| 0x80#8, cfg]
    let ended : Status := { s.status with busy := false, done := true, ok := true }
    let d : Nat := if cfg &&& s.params.cfgFilter50 = 0#8 then s.params.tAuto60 else s.params.tAuto50
    ∃ u, exec (.rtdSetAuto en) s = .next u ∧
      ((en = false ∨ s.continuous = true ∨ d = 0) →
        exec (.rtdSetAuto en) u = .next { sent with seq := .idle, status := ended }) ∧
      (en = true → s.continuous = false → d ≠ 0 →
        ∃ v, exec (.rtdSetAuto en) u = .next v ∧ v = { sent with seq := v.seq } ∧ v.seq ≠ .idle ∧
          ∀ n : Word,
            ((n - s.now).toNat % 2 ^ s.params.tw < d →
              exec (.rtdSetAuto en) { v with now := n } = .next { v with now := n }) ∧
            (d ≤ (n - s.now).toNat % 2 ^ s.params.tw →
              exec (.rtdSetAuto en) { v with now := n } = .next { sent with now := n, seq := .idle, status := ended }))

/-- R81, R70, R9: `None` reads the fault register and writes nothing; `Auto` writes, waits `T_FAULT_AUTO` (not at all
where that is 0) and reads; the manual cycles write and return 0. That entering a wait is an engine step of its own is
the model's reading of R12 (DEDUCED, notes/assumptions/7.md). -/
def Obligations.ReadFaultCompletes : Prop :=
  ∀ (s : State) (m0 m1 : Byte), s.seq = .start → s.rtdActive = true →
    let ended : Status := { s.status with busy := false, done := true, ok := true }
    let keep : Byte := s.cfg &&& s.params.fltKeep
    let persist : Byte := s.params.cfgBias ||| s.params.cfgAuto ||| s.params.cfgWire3 ||| s.params.cfgFilter50
    let addr : Byte := s.params.rtdAddrConfig ||| 0x80#8
    let fault : List Byte := [s.params.rtdAddrFault &&& 0x7F#8, s.params.fill]
    (s.miso 2 = [m0, m1] →
      ∃ u, exec (.rtdReadFault (.known .none)) s = .next u ∧ exec (.rtdReadFault (.known .none)) u = .next
        { s.spiXfer .rtd fault with result := m1.setWidth 32, seq := .idle, status := ended }) ∧
    (∀ (c : FaultCycle) (trig : Byte), (c = .manualRun ∧ trig = s.params.fltTrigManualRun) ∨
        (c = .manualFinish ∧ trig = s.params.fltTrigManualFinish) →
      ∃ u, exec (.rtdReadFault (.known c)) s = .next u ∧ exec (.rtdReadFault (.known c)) u = .next
        { s.spiXfer .rtd [addr, keep ||| trig] with
          cfg := (keep ||| trig) &&& persist, result := 0#32, seq := .idle, status := ended }) ∧
    (let sent : State :=
        { s.spiXfer .rtd [addr, keep ||| s.params.fltTrigAuto] with
          cfg := (keep ||| s.params.fltTrigAuto) &&& persist }
      ∃ u, exec (.rtdReadFault (.known .auto)) s = .next u ∧
        (s.params.tFaultAuto ≠ 0 →
          ∃ v, exec (.rtdReadFault (.known .auto)) u = .next v ∧ v = { sent with seq := v.seq } ∧ v.seq ≠ .idle ∧
            ∀ n : Word,
              ((n - s.now).toNat % 2 ^ s.params.tw < s.params.tFaultAuto →
                exec (.rtdReadFault (.known .auto)) { v with now := n } = .next { v with now := n }) ∧
              (s.params.tFaultAuto ≤ (n - s.now).toNat % 2 ^ s.params.tw → sent.miso 2 = [m0, m1] →
                engineSteps (.rtdReadFault (.known .auto)) 2 { v with now := n } = .next
                  { ({ sent with now := n } : State).spiXfer .rtd fault with
                    result := m1.setWidth 32, seq := .idle, status := ended })) ∧
        (s.params.tFaultAuto = 0 → sent.miso 2 = [m0, m1] →
          engineSteps (.rtdReadFault (.known .auto)) 2 u = .next
            { sent.spiXfer .rtd fault with result := m1.setWidth 32, seq := .idle, status := ended }))

/-- R83, continuous mode: the fault is cleared and the sample read at once; bias is written off again exactly when
it was off. The 15-bit code is the sample without its fault bit. -/
def Obligations.ReadContinuousCompletes : Prop :=
  ∀ (s : State) (m0 m1 m2 : Byte), s.seq = .start → s.rtdActive = true → s.continuous = true →
    let addr : Byte := s.params.rtdAddrConfig ||| 0x80#8
    let cleared : State := s.spiXfer .rtd [addr, s.cfg ||| s.params.cfgFclear]
    let sampled : State := cleared.spiXfer .rtd [s.params.rtdAddrRtdMsb &&& 0x7F#8, s.params.fill, s.params.fill]
    let off : Byte := s.cfg &&& ~~~s.params.cfgBias
    let ended : Status := { s.status with busy := false, done := true, ok := true }
    let code : Word := BitVec.ofNat 32 ((m1 ++ m2).toNat / 2)
    cleared.miso 3 = [m0, m1, m2] →
    (∃ u, exec .rtdRead s = .next u) ∧
    (s.bias = true →
      engineSteps .rtdRead 3 s = .next { sampled with result := code, seq := .idle, status := ended }) ∧
    (s.bias = false →
      engineSteps .rtdRead 4 s = .next
        { ({ sampled with cfg := off } : State).spiXfer .rtd [addr, off] with
          result := code, seq := .idle, status := ended })

/-- R83, R72, R9, one-shot mode with bias on: clear fault, trigger, hold `T_CONV_50` with the 50 Hz filter and
`T_CONV_60` without (not at all where that is 0), read. That entering a wait is an engine step of its own is the
model's reading of R12 (DEDUCED, notes/assumptions/7.md). -/
def Obligations.ReadOneShotBiasOnCompletes : Prop :=
  ∀ (s : State) (m0 m1 m2 : Byte), s.seq = .start → s.rtdActive = true → s.continuous = false → s.bias = true →
    let addr : Byte := s.params.rtdAddrConfig ||| 0x80#8
    let triggered : State :=
      (s.spiXfer .rtd [addr, s.cfg ||| s.params.cfgFclear]).spiXfer .rtd [addr, s.cfg ||| s.params.cfgOneshot]
    let d : Nat := if s.filter50 then s.params.tConv50 else s.params.tConv60
    let read (n : Word) : State :=
      { ({ triggered with now := n } : State).spiXfer .rtd
          [s.params.rtdAddrRtdMsb &&& 0x7F#8, s.params.fill, s.params.fill] with
        result := BitVec.ofNat 32 ((m1 ++ m2).toNat / 2), seq := .idle
        status := { s.status with busy := false, done := true, ok := true } }
    (∃ u, exec .rtdRead s = .next u) ∧
    (d ≠ 0 → ∃ v, engineSteps .rtdRead 3 s = .next v ∧ v = { triggered with seq := v.seq } ∧ v.seq ≠ .idle ∧
      ∀ n : Word,
        ((n - s.now).toNat % 2 ^ s.params.tw < d → exec .rtdRead { v with now := n } = .next { v with now := n }) ∧
        (d ≤ (n - s.now).toNat % 2 ^ s.params.tw → triggered.miso 3 = [m0, m1, m2] →
          engineSteps .rtdRead 2 { v with now := n } = .next (read n))) ∧
    (d = 0 → triggered.miso 3 = [m0, m1, m2] → engineSteps .rtdRead 4 s = .next (read s.now))

/-- R83, R72, R9, one-shot mode with bias off: clear fault, enable bias, hold `T_BIAS`, trigger, hold the conversion
time, read, disable bias again; a time of 0 is not held. `rest n x` says how the command goes on from a state `x` in
which the trigger has just been sent at time `n`. That entering a wait is an engine step of its own is the model's
reading of R12 (DEDUCED, notes/assumptions/7.md). -/
def Obligations.ReadOneShotBiasOffCompletes : Prop :=
  ∀ (s : State) (m0 m1 m2 : Byte), s.seq = .start → s.rtdActive = true → s.continuous = false → s.bias = false →
    let addr : Byte := s.params.rtdAddrConfig ||| 0x80#8
    let on : Byte := s.cfg ||| s.params.cfgBias
    let off : Byte := on &&& ~~~s.params.cfgBias
    let biased : State :=
      ({ s.spiXfer .rtd [addr, s.cfg ||| s.params.cfgFclear] with cfg := on } : State).spiXfer .rtd [addr, on]
    let triggered (n : Word) : State :=
      ({ biased with now := n } : State).spiXfer .rtd [addr, on ||| s.params.cfgOneshot]
    let d : Nat := if on &&& s.params.cfgFilter50 = 0#8 then s.params.tConv60 else s.params.tConv50
    let read (n k : Word) : State :=
      { ({ ({ triggered n with now := k } : State).spiXfer .rtd
              [s.params.rtdAddrRtdMsb &&& 0x7F#8, s.params.fill, s.params.fill] with
            cfg := off } : State).spiXfer .rtd [addr, off] with
        result := BitVec.ofNat 32 ((m1 ++ m2).toNat / 2), seq := .idle
        status := { s.status with busy := false, done := true, ok := true } }
    let rest (n : Word) (x : State) : Prop :=
      x = { triggered n with seq := x.seq } ∧ x.seq ≠ .idle ∧
      (d ≠ 0 → ∃ y, exec .rtdRead x = .next y ∧ y = { triggered n with seq := y.seq } ∧ y.seq ≠ .idle ∧
        ∀ k : Word,
          ((k - n).toNat % 2 ^ s.params.tw < d → exec .rtdRead { y with now := k } = .next { y with now := k }) ∧
          (d ≤ (k - n).toNat % 2 ^ s.params.tw → (triggered n).miso 3 = [m0, m1, m2] →
            engineSteps .rtdRead 3 { y with now := k } = .next (read n k))) ∧
      (d = 0 → (triggered n).miso 3 = [m0, m1, m2] → engineSteps .rtdRead 3 x = .next (read n n))
    (∃ u, exec .rtdRead s = .next u) ∧
    (s.params.tBias ≠ 0 → ∃ v, engineSteps .rtdRead 3 s = .next v ∧ v = { biased with seq := v.seq } ∧ v.seq ≠ .idle ∧
      ∀ n : Word,
        ((n - s.now).toNat % 2 ^ s.params.tw < s.params.tBias →
          exec .rtdRead { v with now := n } = .next { v with now := n }) ∧
        (s.params.tBias ≤ (n - s.now).toNat % 2 ^ s.params.tw →
          ∃ x, exec .rtdRead { v with now := n } = .next x ∧ rest n x)) ∧
    (s.params.tBias = 0 → ∃ x, engineSteps .rtdRead 3 s = .next x ∧ rest s.now x)

/-- R84, R72: the three phases of the non-blocking conversion, each call ending at once; with `ASYNC_RESTORE_BIAS`, bias
is written off again at delivery where it was off at the start. -/
def Obligations.ReadAsyncPhases : Prop :=
  ∀ (s : State) (m0 m1 m2 : Byte), s.seq = .start → s.rtdActive = true →
    let ended (ok : Bool) : Status := { s.status with busy := false, done := true, ok := ok }
    let addr : Byte := s.params.rtdAddrConfig ||| 0x80#8
    let on : Byte := s.cfg ||| s.params.cfgBias
    let off : Byte := s.cfg &&& ~~~s.params.cfgBias
    let cleared : State := s.spiXfer .rtd [addr, s.cfg ||| s.params.cfgFclear]
    let sampled : State := s.spiXfer .rtd [s.params.rtdAddrRtdMsb &&& 0x7F#8, s.params.fill, s.params.fill]
    let conv : Nat := if s.filter50 then s.params.tConv50 else s.params.tConv60
    let since : Nat := (s.now - s.rtdTs).toNat % 2 ^ s.params.tw
    (s.rtdState = .idle → s.bias = true → engineSteps .rtdReadAsync 2 s = .next
      { cleared with
        rtdAsyncBiasWasOn := true, rtdTs := s.now, rtdState := .settling, seq := .idle, status := ended false }) ∧
    (s.rtdState = .idle → s.bias = false → engineSteps .rtdReadAsync 3 s = .next
      { ({ cleared with cfg := on } : State).spiXfer .rtd [addr, on] with
        rtdAsyncBiasWasOn := false, rtdTs := s.now, rtdState := .settling, seq := .idle, status := ended false }) ∧
    (s.rtdState = .settling → since < s.params.tBias →
      exec .rtdReadAsync s = .next { s with seq := .idle, status := ended false }) ∧
    (s.rtdState = .settling → s.params.tBias ≤ since → engineSteps .rtdReadAsync 2 s = .next
      { s.spiXfer .rtd [addr, s.cfg ||| s.params.cfgOneshot] with
        rtdTs := s.now, rtdState := .converting, seq := .idle, status := ended false }) ∧
    (s.rtdState = .converting → since < conv →
      exec .rtdReadAsync s = .next { s with seq := .idle, status := ended false }) ∧
    (s.rtdState = .converting → conv ≤ since → s.miso 3 = [m0, m1, m2] →
      ∃ u, exec .rtdReadAsync s = .next u ∧
        (s.params.asyncRestoreBias = false ∨ s.rtdAsyncBiasWasOn = true → exec .rtdReadAsync u = .next
          { sampled with
            result := BitVec.ofNat 32 ((m1 ++ m2).toNat / 2), rtdState := .idle, seq := .idle
            status := ended true }) ∧
        (s.params.asyncRestoreBias = true → s.rtdAsyncBiasWasOn = false → engineSteps .rtdReadAsync 2 u = .next
          { ({ sampled with cfg := off } : State).spiXfer .rtd [addr, off] with
            result := BitVec.ofNat 32 ((m1 ++ m2).toNat / 2), rtdState := .idle, seq := .idle
            status := ended true }))

/-! ### TC engine -/

/-- R93, R94, R95, R96: the commands that only read and write TC state; allowed whatever the activation flags are.
A NaN offset is held as `0x7FC00000` (R11, notes/assumptions/14.md). -/
def Obligations.TcSettersComplete : Prop :=
  ∀ (s : State) (p : ProbeType) (mask : BitVec 4), s.seq = .start →
    let ended : Status := { s.status with busy := false, done := true, ok := true }
    exec (.tcSetType (.known p)) s = .next { s with tcProbe := p, seq := .idle, status := ended } ∧
    exec (.tcSetFaultMask mask) s = .next { s with tcMask := mask, seq := .idle, status := ended } ∧
    exec .tcGetLastFault s = .next
      { s with result := s.tcLastFault.setWidth 32, tcLastFault := 0#4, seq := .idle, status := ended } ∧
    exec .tcSetCjOffset s = .next
      { s with
        tcOffset := if 0x7F800000 < s.latch.arg0.toNat % 2 ^ 31 then 0x7FC00000#32 else s.latch.arg0
        seq := .idle, status := ended }

/-- R97, R98 with R87, R88: the two decode commands. -/
def Obligations.TcDecodeCommands : Prop :=
  ∀ s : State, s.seq = .start →
    let ended : Status := { s.status with busy := false, done := true, ok := true }
    exec .tcDecHot s = .next
      { s with
        result := Fp.mul (Fp.ofInt (s.latch.arg0.extractLsb' 18 14).toInt) s.params.tcHotLsb
        seq := .idle, status := ended } ∧
    exec .tcDecCold s = .next
      { s with
        result := Fp.sub (Fp.mul (Fp.ofInt (s.latch.arg0.extractLsb' 4 12).toInt) s.params.tcColdLsb) s.tcOffset
        seq := .idle, status := ended }

/-- R87, R88: with the LSBs of the spec the products of the decode functions are exact: hot code times 0.25, cold code
times 0.0625. -/
def Obligations.DecodeProductsExact : Prop :=
  ∀ (c : Params) (raw : Word),
    (c.tcHotLsb = 0x3E800000#32 → (c.decHot raw).scaled = some ((raw.extractLsb' 18 14).toInt * 2 ^ 147)) ∧
    (c.tcColdLsb = 0x3D800000#32 →
      (Fp.mul (Fp.ofInt (coldCode raw)) c.tcColdLsb).scaled = some ((raw.extractLsb' 4 12).toInt * 2 ^ 145))

/-- R99, R100, R89, R90, R91: the two readings make one transaction; a masked fault is latched and the result is NaN; a
probe of no TC type has no table and gives NaN; otherwise the result is the compensated voltage, its operations in
the order of R91, the K correction added exactly when the probe is `TC_K` and the cold junction above zero, or the
inverse table's value of that voltage. -/
def Obligations.TcReadingsComplete : Prop :=
  ∀ (s : State) (m0 m1 m2 m3 : Byte), s.seq = .start → s.tcActive = true → s.miso 4 = [m0, m1, m2, m3] →
    let raw : Word := m0 ++ m1 ++ m2 ++ m3
    let sent : State := s.spiXfer .tc [s.params.fill, s.params.fill, s.params.fill, s.params.fill]
    let ended : Status := { s.status with busy := false, done := true, ok := true }
    let f : BitVec 4 := raw.extractLsb' 0 4 &&& s.tcMask
    (∃ u v, exec .tcReadVolt s = .next u ∧ exec .tcReadTemp s = .next v ∧
      (f ≠ 0#4 →
        exec .tcReadVolt u = .next
          { sent with tcLastFault := f, result := 0x7FC00000#32, seq := .idle, status := ended } ∧
        exec .tcReadTemp v = .next
          { sent with tcLastFault := f, result := 0x7FC00000#32, seq := .idle, status := ended }) ∧
      (f = 0#4 → s.tcProbe = .none ∨ s.tcProbe = .rtd2W ∨ s.tcProbe = .rtd3W →
        exec .tcReadVolt u = .next { sent with result := 0x7FC00000#32, seq := .idle, status := ended } ∧
        exec .tcReadTemp v = .next { sent with result := 0x7FC00000#32, seq := .idle, status := ended }) ∧
      (∀ fwd inv, f = 0#4 →
        (s.tcProbe = .tcK ∧ fwd = s.params.fwdK ∧ inv = s.params.invK) ∨
          (s.tcProbe = .tcJ ∧ fwd = s.params.fwdJ ∧ inv = s.params.invJ) ∨
          (s.tcProbe = .tcT ∧ fwd = s.params.fwdT ∧ inv = s.params.invT) →
        let hot : Fp := Fp.mul (Fp.ofInt (raw.extractLsb' 18 14).toInt) s.params.tcHotLsb
        let cold : Fp := Fp.sub (Fp.mul (Fp.ofInt (raw.extractLsb' 4 12).toInt) s.params.tcColdLsb) s.tcOffset
        let chip : Fp := Fp.mul (Fp.sub hot (Fp.add cold s.tcOffset)) s.params.tcSeebeck
        let plain : Fp := Fp.add chip (polyEval fwd cold)
        let d : Fp := Fp.sub cold s.params.kExpA2
        let k : Fp := Fp.mul s.params.kExpA0 (Fp.exp (Fp.mul s.params.kExpA1 (Fp.mul d d)))
        let mv : Fp := if s.tcProbe = .tcK ∧ Fp.gt cold 0x00000000#32 = true then Fp.add plain k else plain
        exec .tcReadVolt u = .next { sent with result := mv, seq := .idle, status := ended } ∧
        exec .tcReadTemp v = .next { sent with result := polyEval inv mv, seq := .idle, status := ended }))

/-! ### Multiplexer -/

/-- R103, R102: a selection drives exactly one line, that of the channel, with 0 and 2 swapped on a reversed
board. -/
def Obligations.OneLineHigh : Prop :=
  ∀ (s : State) (ch : Channel), s.outCfg = true →
    (s.selectLines ch false).pinSel = (match ch with | .ch0 => 0b001#3 | .ch1 => 0b010#3 | .ch2 => 0b100#3) ∧
    (s.selectLines ch true).pinSel = (match ch with | .ch0 => 0b100#3 | .ch1 => 0b010#3 | .ch2 => 0b001#3)

/-- R109 with R106, a TC probe whose channel's line is not the one driven: the set-up of R106, without a transaction,
and the line driven; then the command holds `T_SETTLE_TC` (not 0) from the step that drives the line before it ends
with `Selected`. -/
def Obligations.SelectTcSwitches : Prop :=
  ∀ (s : State) (ch : Channel) (p : ProbeType), s.seq = .start → familyOf p = some .tc → s.tcActive = true →
    channelCode ch < s.params.nch → oneHot (physOf ch s.reverse) ≠ s.sel → s.params.tSettleTc ≠ 0 →
    ∃ u, exec (.muxSel (.known ch) (.known p)) s = .next u ∧ SetUp ch p .tc s u ∧
      u.route = !s.params.routeRtdLevel ∧ u.muxTs = s.now ∧ u.muxState = .switching ∧ u.seq ≠ .idle ∧
      u.status = s.status ∧ spiCount u.trace = spiCount s.trace ∧
      ((s.curChannel ≠ some ch ∨ s.cache.get ch ≠ p) → u.tcProbe = p) ∧
      (s.curChannel = some ch → s.cache.get ch = p → u.tcProbe = s.tcProbe) ∧
      ∀ n : Word,
        ((n - s.now).toNat % 2 ^ s.params.tw < s.params.tSettleTc →
          exec (.muxSel (.known ch) (.known p)) { u with now := n } = .next { u with now := n }) ∧
        (s.params.tSettleTc ≤ (n - s.now).toNat % 2 ^ s.params.tw →
          exec (.muxSel (.known ch) (.known p)) { u with now := n } = .next
            { u with
              now := n, muxState := .selected, seq := .idle
              status := { s.status with busy := false, done := true, ok := true } })

/-- R109 with R106, R164, an RTD probe whose channel's line is not the one driven: on a new channel or with a new cached
probe the body of `RTD_SET_TYPE` is run first, in a step of its own with one transaction, and otherwise (the lines
of a selected channel changed with `REVERSE`) nothing is reprogrammed; the line is driven, and the command holds
`T_SETTLE_RTD` (not 0) from there before it ends with `Selected`. That the route's entry stands in the trace before
the transaction, also when its level does not change, is the model's choice (DESIGN CHOICE,
notes/assumptions/16.md). -/
def Obligations.SelectRtdSwitches : Prop :=
  ∀ (s : State) (ch : Channel) (p : ProbeType), s.seq = .start → familyOf p = some .rtd → s.rtdActive = true →
    channelCode ch < s.params.nch → oneHot (physOf ch s.reverse) ≠ s.sel → s.params.tSettleRtd ≠ 0 →
    let new : Bool := decide (s.curChannel ≠ some ch) || decide (s.cache.get ch ≠ p)
    let cfg : Byte := if p = .rtd3W then s.cfg ||| s.params.cfgWire3 else s.cfg &&& ~~~s.params.cfgWire3
    (new = true → ∃ u, exec (.muxSel (.known ch) (.known p)) s = .next u ∧
      u = { ({ s with
                route := s.params.routeRtdLevel, cfg := cfg, rtdProbe := p
                trace := s.trace ++ [.pin .route (levelOf (s.outCfg && s.params.routeRtdLevel))] } : State).spiXfer .rtd
              [s.params.rtdAddrConfig ||| 0x80#8, cfg] with seq := u.seq }) ∧
    (new = false → ∃ u, exec (.muxSel (.known ch) (.known p)) s = .next u ∧
      u.cfg = s.cfg ∧ u.rtdProbe = s.rtdProbe ∧ u.misoIn = s.misoIn) ∧
    ∃ v, engineSteps (.muxSel (.known ch) (.known p)) (if new then 2 else 1) s = .next v ∧ SetUp ch p .rtd s v ∧
      v.route = s.params.routeRtdLevel ∧ v.muxTs = s.now ∧ v.muxState = .switching ∧ v.seq ≠ .idle ∧
      v.status = s.status ∧ spiCount v.trace = spiCount s.trace + (if new then 1 else 0) ∧
      (new = true → v.cfg = cfg ∧ v.rtdProbe = p) ∧
      ∀ n : Word,
        ((n - s.now).toNat % 2 ^ s.params.tw < s.params.tSettleRtd →
          exec (.muxSel (.known ch) (.known p)) { v with now := n } = .next { v with now := n }) ∧
        (s.params.tSettleRtd ≤ (n - s.now).toNat % 2 ^ s.params.tw →
          exec (.muxSel (.known ch) (.known p)) { v with now := n } = .next
            { v with
              now := n, muxState := .selected, seq := .idle
              status := { s.status with busy := false, done := true, ok := true } })

/-- Selecting again what is selected (P3 of DOC §8, R106): no transaction and no reprogram, the lines are driven
again, and with no switch pending both select commands end at once with `OK`. That driving the lines again makes one
trace entry for ROUTE and one for each select line, in that order, is the model's choice (DESIGN CHOICE,
notes/assumptions/16.md). -/
def Obligations.ReselectionIsImmediate : Prop :=
  ∀ (s : State) (ch : Channel) (p : ProbeType) (fam : Family), s.seq = .start → familyOf p = some fam →
    s.familyActive fam = true → channelCode ch < s.params.nch → s.outCfg = true → s.curChannel = some ch →
    s.cache.get ch = p → s.sel = oneHot (physOf ch s.reverse) → s.muxState = .selected →
    s.route = (match fam with | .rtd => s.params.routeRtdLevel | .tc => !s.params.routeRtdLevel) →
    let ended : State :=
      { s with
        trace := s.trace ++ [.pin .route (levelOf s.route)] ++
          [.pin .sel0 (levelOf (s.sel.getLsbD 0)), .pin .sel1 (levelOf (s.sel.getLsbD 1)),
           .pin .sel2 (levelOf (s.sel.getLsbD 2))]
        seq := .idle, status := { s.status with busy := false, done := true, ok := true } }
    exec (.muxSel (.known ch) (.known p)) s = .next ended ∧
    exec (.muxSelAsync (.known ch) (.known p)) s = .next ended

/-- R109, R110, R163 (and decision D32): a selection whose lines are already those of the channel, also with a probe of
the other family. With no switch pending, or with one whose settle delay has passed, both select commands do the
set-up and end with `OK` and `Selected`, without a wait. With a switch pending, `MUX_SEL` does the set-up and then
holds the remainder of its probe's settle delay, counted from the change of the lines, before it ends with `OK` and
`Selected`. -/
def Obligations.SelectWithoutSwitch : Prop :=
  ∀ (s : State) (ch : Channel) (p : ProbeType) (fam : Family), s.seq = .start → familyOf p = some fam →
    s.familyActive fam = true → channelCode ch < s.params.nch → s.sel = oneHot (physOf ch s.reverse) →
    let k : Nat := if fam = .rtd ∧ (s.curChannel ≠ some ch ∨ s.cache.get ch ≠ p) then 2 else 1
    let d : Nat := match fam with | .tc => s.params.tSettleTc | .rtd => s.params.tSettleRtd
    let ended : Status := { s.status with busy := false, done := true, ok := true }
    (∀ i : Instr, i = .muxSel (.known ch) (.known p) ∨ i = .muxSelAsync (.known ch) (.known p) →
      s.muxState = .selected ∨ d ≤ (s.now - s.muxTs).toNat % 2 ^ s.params.tw →
      ∃ t, engineSteps i k s = .next t ∧ SetUp ch p fam s t ∧ t.seq = .idle ∧ t.status = ended ∧
        t.muxState = .selected ∧ t.muxTs = s.muxTs) ∧
    (s.muxState = .switching → (s.now - s.muxTs).toNat % 2 ^ s.params.tw < d →
      ∃ v, engineSteps (.muxSel (.known ch) (.known p)) k s = .next v ∧ SetUp ch p fam s v ∧ v.seq ≠ .idle ∧
        v.status = s.status ∧ v.muxState = .switching ∧ v.muxTs = s.muxTs ∧
        ∀ n : Word,
          ((n - s.muxTs).toNat % 2 ^ s.params.tw < d →
            exec (.muxSel (.known ch) (.known p)) { v with now := n } = .next { v with now := n }) ∧
          (d ≤ (n - s.muxTs).toNat % 2 ^ s.params.tw →
            exec (.muxSel (.known ch) (.known p)) { v with now := n } = .next
              { v with now := n, muxState := .selected, seq := .idle, status := ended }))

/-- R110 with R106, a non-blocking selection whose lines change: after the set-up (in two engine steps where it
reprograms an RTD probe, with the body of `RTD_SET_TYPE` and its one transaction, and in one otherwise) it ends at
once, the time taken, `Switching` and without `OK`; the settle delay is not 0. -/
def Obligations.AsyncSelectStartsSwitch : Prop :=
  ∀ (s : State) (ch : Channel) (p : ProbeType) (fam : Family), s.seq = .start → familyOf p = some fam →
    s.familyActive fam = true → channelCode ch < s.params.nch → oneHot (physOf ch s.reverse) ≠ s.sel →
    (match fam with | .tc => s.params.tSettleTc | .rtd => s.params.tSettleRtd) ≠ 0 →
    let new : Prop := s.curChannel ≠ some ch ∨ s.cache.get ch ≠ p
    (∃ u, exec (.muxSelAsync (.known ch) (.known p)) s = .next u) ∧
    ∃ t, engineSteps (.muxSelAsync (.known ch) (.known p)) (if fam = .rtd ∧ new then 2 else 1) s = .next t ∧
      SetUp ch p fam s t ∧ t.seq = .idle ∧ t.status = { s.status with busy := false, done := true, ok := false } ∧
      t.muxTs = s.now ∧ t.muxState = .switching ∧
      (fam = .rtd → new → t.rtdProbe = p ∧
        t.cfg = (if p = .rtd3W then s.cfg ||| s.params.cfgWire3 else s.cfg &&& ~~~s.params.cfgWire3)) ∧
      (fam = .tc → new → t.tcProbe = p)

/-- R110, R163, the settle window: a non-blocking selection that finds a switch pending and its lines already driven,
with whatever probe, gives `OK` exactly when the settle delay of that probe's own family has passed since the lines
changed, after the set-up (in two engine steps where it reprograms an RTD probe, and in one otherwise). -/
def Obligations.AsyncSettleWindow : Prop :=
  ∀ (s : State) (ch : Channel) (p : ProbeType) (fam : Family), s.seq = .start → familyOf p = some fam →
    s.familyActive fam = true → channelCode ch < s.params.nch → s.sel = oneHot (physOf ch s.reverse) →
    s.muxState = .switching →
    let k : Nat := if fam = .rtd ∧ (s.curChannel ≠ some ch ∨ s.cache.get ch ≠ p) then 2 else 1
    let d : Nat := match fam with | .tc => s.params.tSettleTc | .rtd => s.params.tSettleRtd
    let due : Bool := decide (d ≤ (s.now - s.muxTs).toNat % 2 ^ s.params.tw)
    ∃ t, engineSteps (.muxSelAsync (.known ch) (.known p)) k s = .next t ∧ SetUp ch p fam s t ∧ t.seq = .idle ∧
      t.status = { s.status with busy := false, done := true, ok := due } ∧
      t.muxState = (if due then .selected else .switching) ∧ t.muxTs = s.muxTs

/-- R109, R110, every step of a select command on a channel that exists, from every position of its body: no such step
reports `Selected` before the settle delay `d` of the command's own probe. A step that changes the lines takes the
time and, with `d` not 0, leaves the machine `Switching` and does not end with `OK`. A step that ends with `OK`,
other than the end of a hold, leaves it `Selected`, and if it changed the lines or found a switch pending, `d` has
passed since the last change. A hold that is entered waits `d` from that change, and one that ends has waited it out
and leaves the lines alone (that the hold keeps these values in between is the invariant of StepKeepsInvariant). -/
def Obligations.SwitchNeverEndsEarly : Prop :=
  ∀ (s t : State) (i : Instr) (ch : Channel) (p : ProbeType) (fam : Family), familyOf p = some fam →
    channelCode ch < s.params.nch → i = .muxSel (.known ch) (.known p) ∨ i = .muxSelAsync (.known ch) (.known p) →
    SeqFits s.params i s.seq = true → exec i s = .next t →
    let d : Nat := match fam with | .tc => s.params.tSettleTc | .rtd => s.params.tSettleRtd
    let since (t0 : Word) : Nat := (s.now - t0).toNat % 2 ^ s.params.tw
    (t.sel ≠ s.sel → t.muxTs = s.now ∧
      (d ≠ 0 → t.muxState = .switching ∧ (t.seq = .idle → t.status.ok = false))) ∧
    ((∀ label t0 w flag, s.seq ≠ .hold label t0 w flag) → t.seq = .idle → t.status.ok = true →
      t.muxState = .selected ∧ (t.sel ≠ s.sel ∨ s.muxState = .switching → d ≤ since t.muxTs)) ∧
    (∀ label t0 w flag, t.seq = .hold label t0 w flag → t.seq ≠ s.seq →
      i = .muxSel (.known ch) (.known p) ∧ t0 = t.muxTs ∧ w = d ∧ t.muxState = .switching ∧ since t0 < d) ∧
    ∀ label t0 w flag, s.seq = .hold label t0 w flag → t.seq ≠ s.seq →
      w ≤ since t0 ∧ t.seq = .idle ∧ t.status.ok = true ∧ t.muxState = .selected ∧ t.sel = s.sel ∧ t.muxTs = s.muxTs

/-- R144: a channel above 2 with a valid, active probe: both commands end with no other effect, `MUX_SEL` with `OK`
and `MUX_SEL_ASYNC` without. In a configuration with fewer channels (`NCH` of R5) the same holds for a channel that it
does not have, which is the model's reading of that parameter (DESIGN CHOICE, notes/assumptions/10.md). -/
def Obligations.ChannelOutOfRangeIgnored : Prop :=
  ∀ (s : State) (c : Coded Channel) (p : ProbeType) (fam : Family), s.seq = .start → familyOf p = some fam →
    s.familyActive fam = true → (match c with | .unknown _ => True | .known ch => s.params.nch ≤ channelCode ch) →
    exec (.muxSel c (.known p)) s = .next
      { s with seq := .idle, status := { s.status with busy := false, done := true, ok := true } } ∧
    exec (.muxSelAsync c (.known p)) s = .next
      { s with seq := .idle, status := { s.status with busy := false, done := true, ok := false } }

/-! ### Lifecycle -/

/-- R113, R111, R112 where the TC sub-driver is not active: one raw read of four bytes; the sub-driver is then active
with the shared outputs configured, or, for the absent word, its chip select is tri-stated and the shared outputs
are released unless the RTD sub-driver has them. A multiplexer state that the RTD sub-driver holds is kept. -/
def Obligations.BeginTcCompletes : Prop :=
  ∀ (s : State) (m0 m1 m2 m3 : Byte), s.seq = .start → s.tcActive = false → s.outCfg = s.rtdActive →
    s.miso 4 = [m0, m1, m2, m3] →
    ∃ u t, exec .beginTc s = .next u ∧ exec .beginTc u = .next t ∧
      t.seq = .idle ∧
      t.status = { s.status with busy := false, done := true, ok := decide (m0 ++ m1 ++ m2 ++ m3 ≠ s.params.tcAbsent) } ∧
      t.tcActive = t.status.ok ∧ t.outCfg = (t.status.ok || s.rtdActive) ∧
      t.csTc = (if t.status.ok then .high else .z) ∧
      t.sel = (if s.rtdActive then s.sel else 0#3) ∧ t.route = (if s.rtdActive then s.route else false) ∧
      t.curChannel = (if s.rtdActive then s.curChannel else none) ∧
      t.cache = (if s.rtdActive then s.cache else ⟨.none, .none, .none⟩) ∧
      t.muxState = (if s.rtdActive then s.muxState else .selected) ∧
      t.muxTs = (if s.rtdActive then s.muxTs else 0#32) ∧
      (∃ es, t.trace = s.trace ++ es ∧ spiOnly es =
        [.spi .tc [s.params.fill, s.params.fill, s.params.fill, s.params.fill] [m0, m1, m2, m3]]) ∧
      t = { s with
            seq := .idle, status := t.status, tcActive := t.tcActive, outCfg := t.outCfg, csTc := t.csTc
            sel := t.sel, route := t.route, curChannel := t.curChannel, cache := t.cache, muxState := t.muxState
            muxTs := t.muxTs, trace := t.trace, sclk := t.sclk, mosi := t.mosi, misoIn := t.misoIn
            freeCount := t.freeCount }

/-- R114, R111 where the RTD sub-driver is not active: the shared outputs are acquired if the TC sub-driver does not
have them, then seven writes follow, in order, with the mirror reset; it always succeeds. The form and order of the
pin entries of the trace (SEL0, SEL1, SEL2 and ROUTE low, then CS_RTD high) are the model's choice (DESIGN CHOICE,
notes/assumptions/16.md). -/
def Obligations.BeginRtdCompletes : Prop :=
  ∀ s : State, s.seq = .start → s.rtdActive = false →
    let acquired : State :=
      if s.tcActive then s
      else
        { s with
          outCfg := true, sel := 0#3, route := false, curChannel := none, cache := ⟨.none, .none, .none⟩
          muxState := .selected, muxTs := 0#32
          trace := s.trace ++ [.pin .sel0 .low, .pin .sel1 .low, .pin .sel2 .low, .pin .route .low] }
    let opened : State :=
      { acquired with
        csRtd := .high, trace := acquired.trace ++ [.pin .csRtd .high], cfg := 0x00#8, rtdProbe := .none }
    let w (addr val : Byte) (x : State) : State := x.spiXfer .rtd [addr ||| 0x80#8, val]
    let c := s.params
    (∃ u, exec .beginRtd s = .next u) ∧
    engineSteps .beginRtd 8 s = .next
      { w c.rtdAddrConfig c.cfgFclear (w c.rtdAddrHftLsb 0xFF (w c.rtdAddrHftMsb 0xFF (w c.rtdAddrLftLsb 0x00
          (w c.rtdAddrLftMsb 0x00 (w c.rtdAddrConfig 0x00 (w c.rtdAddrConfig 0x00 opened)))))) with
        rtdState := .idle, rtdTs := 0#32, rtdAsyncBiasWasOn := false, rtdActive := true, seq := .idle
        status := { s.status with busy := false, done := true, ok := true } }

/-- R115 where at least one sub-driver is not active: TC first, then RTD whatever TC gave; `OK` is whether both are
open, and the shared outputs are configured in every case. -/
def Obligations.BeginBothCompletes : Prop :=
  ∀ (s : State) (m0 m1 m2 m3 : Byte), s.seq = .start → s.outCfg = (s.tcActive || s.rtdActive) →
    s.miso 4 = [m0, m1, m2, m3] → (s.tcActive && s.rtdActive) = false →
    let present : Bool := decide (m0 ++ m1 ++ m2 ++ m3 ≠ s.params.tcAbsent)
    let steps : Nat := if s.tcActive then 8 else if s.rtdActive then 2 else 9
    (∃ u, exec .beginBoth s = .next u) ∧
    ∃ t, engineSteps .beginBoth steps s = .next t ∧ t.seq = .idle ∧
      t.status = { s.status with busy := false, done := true, ok := s.tcActive || present } ∧
      t.tcActive = (s.tcActive || present) ∧ t.rtdActive = true ∧ t.outCfg = true ∧
      (s.tcActive = false → t.csTc = (if present then .high else .z)) ∧
      (s.rtdActive = false → t.csRtd = .high ∧ t.cfg = 0x00#8 ∧ t.rtdProbe = .none ∧ t.rtdState = .idle ∧
        t.rtdTs = 0#32 ∧ t.rtdAsyncBiasWasOn = false) ∧
      (s.tcActive = true → t.csTc = s.csTc) ∧
      (s.rtdActive = true → t.csRtd = s.csRtd ∧ t.cfg = s.cfg ∧ t.rtdProbe = s.rtdProbe ∧
        t.rtdState = s.rtdState ∧ t.rtdTs = s.rtdTs ∧ t.rtdAsyncBiasWasOn = s.rtdAsyncBiasWasOn) ∧
      t.sel = (if s.outCfg then s.sel else 0#3) ∧ t.route = (if s.outCfg then s.route else false) ∧
      t.curChannel = (if s.outCfg then s.curChannel else none) ∧
      t.cache = (if s.outCfg then s.cache else ⟨.none, .none, .none⟩) ∧
      t.muxState = (if s.outCfg then s.muxState else .selected) ∧ t.muxTs = (if s.outCfg then s.muxTs else 0#32) ∧
      spiCount t.trace = spiCount s.trace + (steps - 1) ∧
      t = { s with
            seq := t.seq, status := t.status, tcActive := t.tcActive, rtdActive := t.rtdActive, outCfg := t.outCfg
            csTc := t.csTc, csRtd := t.csRtd, cfg := t.cfg, rtdProbe := t.rtdProbe, rtdState := t.rtdState
            rtdTs := t.rtdTs, rtdAsyncBiasWasOn := t.rtdAsyncBiasWasOn, sel := t.sel, route := t.route
            curChannel := t.curChannel, cache := t.cache, muxState := t.muxState, muxTs := t.muxTs
            trace := t.trace, sclk := t.sclk, mosi := t.mosi, misoIn := t.misoIn, freeCount := t.freeCount }

/-- R113, R114, R115: a begin command for sub-drivers that are already active is a no-op that reports success. -/
def Obligations.BeginIsIdempotent : Prop :=
  ∀ s : State, s.seq = .start →
    let ended : State := { s with seq := .idle, status := { s.status with busy := false, done := true, ok := true } }
    (s.tcActive = true → exec .beginTc s = .next ended) ∧
    (s.rtdActive = true → exec .beginRtd s = .next ended) ∧
    (s.tcActive = true → s.rtdActive = true → exec .beginBoth s = .next ended)

/-- R116, R117, R118 with R112: the end commands always succeed in one step, make no transaction, tri-state the chip
selects of the sub-drivers they close, and release the shared outputs exactly when no sub-driver is left. -/
def Obligations.EndCommandsComplete : Prop :=
  ∀ (i : Instr) (s : State), s.seq = .start → s.outCfg = (s.tcActive || s.rtdActive) →
    i = .endTc ∨ i = .endRtd ∨ i = .endBoth →
    let tc : Bool := s.tcActive && decide (i ≠ .endTc) && decide (i ≠ .endBoth)
    let rtd : Bool := s.rtdActive && decide (i ≠ .endRtd) && decide (i ≠ .endBoth)
    let kept : Bool := !s.outCfg || tc || rtd
    ∃ t, exec i s = .next t ∧ t.seq = .idle ∧
      t.status = { s.status with busy := false, done := true, ok := true } ∧
      t.tcActive = tc ∧ t.rtdActive = rtd ∧ t.outCfg = (tc || rtd) ∧
      t.csTc = (if s.tcActive && !tc then .z else s.csTc) ∧
      t.csRtd = (if s.rtdActive && !rtd then .z else s.csRtd) ∧
      t.rtdState = (if s.rtdActive && !rtd then .idle else s.rtdState) ∧
      t.sel = (if kept then s.sel else 0#3) ∧ t.route = (if kept then s.route else false) ∧
      t.curChannel = (if kept then s.curChannel else none) ∧
      t.cache = (if kept then s.cache else ⟨.none, .none, .none⟩) ∧
      t.muxState = (if kept then s.muxState else .selected) ∧ t.muxTs = (if kept then s.muxTs else 0#32) ∧
      spiCount t.trace = spiCount s.trace ∧
      t = { s with
            seq := .idle, status := t.status, tcActive := tc, rtdActive := rtd, outCfg := t.outCfg
            csTc := t.csTc, csRtd := t.csRtd, rtdState := t.rtdState, sel := t.sel, route := t.route
            curChannel := t.curChannel, cache := t.cache, muxState := t.muxState, muxTs := t.muxTs
            trace := t.trace }

/-! ### Decode pipeline -/

/-- R121, R132, R133 with R130, R131: the pipeline commands complete in one step, whatever the activation flags are.
`POLY_EVAL` gives the evaluator's value in the table of its code; `RTD_CALC_RES` gives `raw / RTD_FULL * rref`;
`RTD_CALC_TEMP` gives NaN for a reference that is not finite and positive, for a NaN resistance and for a discriminant
that is not `>= 0`, else the quadratic solution where that is `>= 0` (so also where it is -0.0), and else the sub-zero
polynomial. `ARG0[31:15]` is ignored by the two RTD commands. -/
def Obligations.PipelineCommandsComplete : Prop :=
  ∀ (s : State) (tbl : TableId), s.seq = .start →
    let ended : Status := { s.status with busy := false, done := true, ok := true }
    let raw : Nat := s.latch.arg0.toNat % 2 ^ 15
    let table : List Segment :=
      match tbl with
      | .fwdK => s.params.fwdK | .fwdJ => s.params.fwdJ | .fwdT => s.params.fwdT
      | .invK => s.params.invK | .invJ => s.params.invJ | .invT => s.params.invT
    let bits (w : Word) : Fp := if 0x7F800000 < w.toNat % 2 ^ 31 then 0x7FC00000#32 else w
    let rref : Fp := bits s.latch.arg1
    let r0 : Fp := bits s.latch.arg2
    let positive (x : Fp) : Prop := Fp.gt x 0x00000000#32 = true ∧ x ≠ 0x7F800000#32
    let ends (i : Instr) (v : Word) : Prop := exec i s = .next { s with result := v, seq := .idle, status := ended }
    let r : Fp := Fp.mul (Fp.div (Fp.ofInt raw) s.params.rtdFull) rref
    let z4 : Fp := Fp.mul 0x40800000#32 s.params.rtdB
    let disc : Fp := Fp.add (Fp.sub (Fp.mul s.params.rtdA s.params.rtdA) z4) (Fp.mul (Fp.div z4 r0) r)
    let t : Fp := Fp.div (Fp.sub (Fp.sqrt disc) s.params.rtdA) (Fp.mul 0x40000000#32 s.params.rtdB)
    let sub : Fp := polyEval [⟨0x7F800000#32, s.params.rtdSub⟩] (Fp.mul (Fp.div r r0) 0x42C80000#32)
    ends (.polyEval (.known tbl)) (polyEval table (bits s.latch.arg0)) ∧
    (¬ positive rref → ends .rtdCalcRes 0x7FC00000#32 ∧ ends .rtdCalcTemp 0x7FC00000#32) ∧
    (positive rref → ends .rtdCalcRes r) ∧
    (¬ positive r0 → ends .rtdCalcTemp 0x7FC00000#32) ∧
    (positive rref → positive r0 →
      (r.isNaN = true ∨ Fp.ge disc 0x00000000#32 = false → ends .rtdCalcTemp 0x7FC00000#32) ∧
      (r.isNaN = false → Fp.ge disc 0x00000000#32 = true → Fp.ge t 0x00000000#32 = true → ends .rtdCalcTemp t) ∧
      (r.isNaN = false → Fp.ge disc 0x00000000#32 = true → Fp.ge t 0x00000000#32 = false →
        ends .rtdCalcTemp sub)) ∧
    Fp.ge 0x80000000#32 0x00000000#32 = true

/-- R120: the first segment whose bound exceeds the value decides: no coefficients give NaN, and otherwise the
powers are summed upward from `c_0`; with no such segment the result is NaN. -/
def Obligations.PolyEvalTakesFirstSegment : Prop :=
  (∀ (before after : List Segment) (seg : Segment) (v : Fp),
    (∀ b ∈ before, Fp.gt b.bound v = false) → Fp.gt seg.bound v = true →
    polyEval (before ++ seg :: after) v =
      if seg.coeffs = [] then 0x7FC00000#32
      else (seg.coeffs.foldl (fun st c => (Fp.add st.1 (Fp.mul st.2 c), Fp.mul st.2 v))
        ((0x00000000#32, 0x3F800000#32) : Fp × Fp)).1) ∧
  ∀ (table : List Segment) (v : Fp), (∀ b ∈ table, Fp.gt b.bound v = false) → polyEval table v = 0x7FC00000#32

/-- R130: with the full scale of the spec and a finite positive reference the resistance is the exact product `raw /
32768 * rref`, rounded once: the quotient is exact. -/
def Obligations.ResistanceRoundedOnce : Prop :=
  ∀ (c : Params) (raw m : Nat) (e : Int) (rref : Fp), c.rtdFull = 0x47000000#32 → raw < 2 ^ 15 → m ≠ 0 →
    rref.unpack = .fin false m e → c.rtdRes raw rref = Fp.round false (raw * m) (e - 15)

/-- R143 with R120, R130, R131, R90: NaN, in every pattern, gives NaN with every table, and both infinities with every
table of the default ROM; a reference value that is NaN, not positive or infinite gives NaN; and only the TC probe
types have tables. -/
def Obligations.DomainErrorsGiveNaN : Prop :=
  (∀ (table : List Segment) (v : Fp), v.isNaN = true → polyEval table v = 0x7FC00000#32) ∧
  (∀ (tbl : TableId) (v : Fp), v = 0x7F800000#32 ∨ v = 0xFF800000#32 →
    polyEval (Params.default.table tbl) v = 0x7FC00000#32) ∧
  (∀ (c : Params) (raw : Nat) (x y : Fp), (x.isNaN = true ∨ x.sign = true ∨ x = 0x00000000#32 ∨ x = 0x7F800000#32) →
    c.rtdRes raw x = 0x7FC00000#32 ∧ c.rtdTemp raw x y = 0x7FC00000#32 ∧ c.rtdTemp raw y x = 0x7FC00000#32) ∧
  ∀ (c : Params) (p : ProbeType),
    (c.fwdTable p = none ↔ familyOf p ≠ some .tc) ∧ (c.invTable p = none ↔ familyOf p ≠ some .tc)

/-- R11, R119: `Fp.round` rounds to nearest, ties to even, and keeps the sign. For a finite result `r`, no finite
pattern is nearer to the exact `±m * 2^e`, and where another finite value is equally near, the result's last bit is
0; all are compared in units of `2^(-149-k)`, small enough that `±m * 2^e` is an integer. The result is the infinity
of its sign exactly from the midpoint above the largest finite value upward, and is never NaN. -/
def Obligations.RoundIsNearest : Prop :=
  ∀ (neg : Bool) (m k : Nat) (e : Int), 0 ≤ e + 149 + k →
    let exact : Int := Fp.signed neg m (e + 149 + k).toNat
    (∀ (r : Int), (Fp.round neg m e).scaled = some r → ∀ (y : Fp) (v : Int), y.scaled = some v →
      (r * 2 ^ k - exact).natAbs ≤ (v * 2 ^ k - exact).natAbs ∧
      (v ≠ r → (v * 2 ^ k - exact).natAbs = (r * 2 ^ k - exact).natAbs → (Fp.round neg m e).getLsbD 0 = false)) ∧
    ((2 ^ 25 - 1) * 2 ^ (252 + k) ≤ m * 2 ^ (e + 149 + k).toNat →
      Fp.round neg m e = if neg then 0xFF800000#32 else 0x7F800000#32) ∧
    (m * 2 ^ (e + 149 + k).toNat < (2 ^ 25 - 1) * 2 ^ (252 + k) → (Fp.round neg m e).scaled.isSome = true) ∧
    (Fp.round neg m e).sign = neg

/-- Rounding the exact value of a finite pattern gives the pattern back; and the comparisons follow IEEE-754 (R11): those
of finite patterns are those of their exact values (so -0.0 and 0.0 are equal), an infinity lies beyond every finite
value on its side and compares equal to itself, and every comparison with a NaN is false. -/
def Obligations.RoundOfUnpack : Prop :=
  (∀ (x : Fp) (neg : Bool) (m : Nat) (e : Int), x.unpack = .fin neg m e → Fp.round neg m e = x) ∧
  (∀ (x y : Fp) (a b : Int), x.scaled = some a → y.scaled = some b →
    Fp.gt x y = decide (b < a) ∧ Fp.ge x y = decide (b ≤ a)) ∧
  (let top : Fp := 0x7F800000#32
   let bottom : Fp := 0xFF800000#32
   (∀ (y : Fp) (b : Int), y.scaled = some b →
     Fp.gt top y = true ∧ Fp.ge top y = true ∧ Fp.gt y top = false ∧ Fp.ge y top = false ∧
     Fp.gt y bottom = true ∧ Fp.ge y bottom = true ∧ Fp.gt bottom y = false ∧ Fp.ge bottom y = false) ∧
   Fp.gt top top = false ∧ Fp.ge top top = true ∧ Fp.gt bottom bottom = false ∧ Fp.ge bottom bottom = true ∧
   Fp.gt top bottom = true ∧ Fp.ge top bottom = true ∧ Fp.gt bottom top = false ∧ Fp.ge bottom top = false) ∧
  ∀ x y : Fp, x.isNaN = true ∨ y.isNaN = true → Fp.gt x y = false ∧ Fp.ge x y = false

/-! ### Whole machine -/

/-- The reset state meets the invariant, and its configuration has the default values of R5 and of R68 to R70, R119. -/
def Obligations.ResetMeetsInvariant : Prop :=
  State.reset.Inv ∧
  let c := State.reset.params
  c.tw = 32 ∧ c.nch = 3 ∧ c.rtdSclkHz = 1000000 ∧ c.rtdSpiMode = 1 ∧ c.tcSclkHz = 4000000 ∧ c.tcSpiMode = 0 ∧
  c.fill = 0x00#8 ∧ c.tBias = 10 ∧ c.tConv60 = 65 ∧ c.tConv50 = 75 ∧ c.tAuto60 = 60 ∧ c.tAuto50 = 70 ∧
  c.tFaultAuto = 1 ∧ c.tSettleTc = 150 ∧ c.tSettleRtd = 75 ∧
  c.rtdA = 0x3B801132#32 ∧ c.rtdB = 0xB51B057F#32 ∧ c.rtdFull = 0x47000000#32 ∧ c.tcHotLsb = 0x3E800000#32 ∧
  c.tcColdLsb = 0x3D800000#32 ∧ c.tcCjOffsetReset = 0x40066666#32 ∧ c.tcSeebeck = 0x3D291106#32 ∧
  c.kExpA0 = 0x3DF2E34C#32 ∧ c.kExpA1 = 0xB8F82F06#32 ∧ c.kExpA2 = 0x42FDEFEC#32 ∧
  c.tcAbsent = 0x00FFFFFF#32 ∧ c.tcFaultMaskReset = 0x7#4 ∧ c.routeRtdLevel = true ∧ c.asyncRestoreBias = false ∧
  c.fp = .binary32NearestEven ∧
  c.rtdAddrConfig = 0x00#8 ∧ c.rtdAddrRtdMsb = 0x01#8 ∧ c.rtdAddrHftMsb = 0x03#8 ∧ c.rtdAddrHftLsb = 0x04#8 ∧
  c.rtdAddrLftMsb = 0x05#8 ∧ c.rtdAddrLftLsb = 0x06#8 ∧ c.rtdAddrFault = 0x07#8 ∧
  c.cfgBias = 0x80#8 ∧ c.cfgAuto = 0x40#8 ∧ c.cfgOneshot = 0x20#8 ∧ c.cfgWire3 = 0x10#8 ∧ c.cfgFcyc = 0x0C#8 ∧
  c.cfgFclear = 0x02#8 ∧ c.cfgFilter50 = 0x01#8 ∧
  c.fltKeep = 0x11#8 ∧ c.fltTrigAuto = 0x84#8 ∧ c.fltTrigManualRun = 0x88#8 ∧ c.fltTrigManualFinish = 0x8C#8

/-- Every step of every agent keeps the invariant and the configuration, and none ends in a fault. Which configurations
the invariant admits (`Params.wf`) is the model's choice (DESIGN CHOICE, notes/assumptions/10.md). -/
def Obligations.StepKeepsInvariant : Prop :=
  ∀ s : State, s.Inv → (∀ f, step s ≠ .fault f) ∧ ∀ t, step s = .next t → t.Inv ∧ t.params = s.params

/-- R20, R9: a command body has no loops and every wait in it ends, so that an accepted command completes: within the
time of two of the longest waits and 20 more steps of engine and clock, none of them a fault or a refusal. The
schedule is the model's own (DESIGN CHOICE, notes/assumptions/2.md). -/
def Obligations.EveryCommandCompletes : Prop :=
  ∀ s : State, s.Inv → s.turns = [] → s.rst = false → s.status.busy = true →
    ∃ (n : Nat) (t : State), n ≤ 2 * s.params.longestWait + 20 ∧ Host.Core.run Sys2Proof.core n s = .next t ∧
      t.status.busy = false ∧ t.status.done = true ∧ t.latch = s.latch
end

