-- ==== Sys2Proof/Laws/State.lean ====
section
/-! SUPPORT. What each update of the state leaves in each field: one lemma per field per update, so that no
proof unfolds a record update. -/

namespace Sys2Proof.Machine

/-! ### `finish`: completion (00_scope.md R12) -/

@[simp] theorem State.finish_params (s : State) (ok : Bool) : (s.finish ok).params = s.params := rfl
@[simp] theorem State.finish_cmd (s : State) (ok : Bool) : (s.finish ok).cmd = s.cmd := rfl
@[simp] theorem State.finish_status (s : State) (ok : Bool) : (s.finish ok).status = s.status.finish ok := rfl
@[simp] theorem State.finish_arg0 (s : State) (ok : Bool) : (s.finish ok).arg0 = s.arg0 := rfl
@[simp] theorem State.finish_arg1 (s : State) (ok : Bool) : (s.finish ok).arg1 = s.arg1 := rfl
@[simp] theorem State.finish_arg2 (s : State) (ok : Bool) : (s.finish ok).arg2 = s.arg2 := rfl
@[simp] theorem State.finish_result (s : State) (ok : Bool) : (s.finish ok).result = s.result := rfl
@[simp] theorem State.finish_seq (s : State) (ok : Bool) : (s.finish ok).seq = .idle := rfl
@[simp] theorem State.finish_latch (s : State) (ok : Bool) : (s.finish ok).latch = s.latch := rfl
@[simp] theorem State.finish_tcActive (s : State) (ok : Bool) : (s.finish ok).tcActive = s.tcActive := rfl
@[simp] theorem State.finish_rtdActive (s : State) (ok : Bool) : (s.finish ok).rtdActive = s.rtdActive := rfl
@[simp] theorem State.finish_outCfg (s : State) (ok : Bool) : (s.finish ok).outCfg = s.outCfg := rfl
@[simp] theorem State.finish_curChannel (s : State) (ok : Bool) : (s.finish ok).curChannel = s.curChannel := rfl
@[simp] theorem State.finish_cache (s : State) (ok : Bool) : (s.finish ok).cache = s.cache := rfl
@[simp] theorem State.finish_sel (s : State) (ok : Bool) : (s.finish ok).sel = s.sel := rfl
@[simp] theorem State.finish_route (s : State) (ok : Bool) : (s.finish ok).route = s.route := rfl
@[simp] theorem State.finish_muxState (s : State) (ok : Bool) : (s.finish ok).muxState = s.muxState := rfl
@[simp] theorem State.finish_muxTs (s : State) (ok : Bool) : (s.finish ok).muxTs = s.muxTs := rfl
@[simp] theorem State.finish_cfg (s : State) (ok : Bool) : (s.finish ok).cfg = s.cfg := rfl
@[simp] theorem State.finish_rtdProbe (s : State) (ok : Bool) : (s.finish ok).rtdProbe = s.rtdProbe := rfl
@[simp] theorem State.finish_rtdState (s : State) (ok : Bool) : (s.finish ok).rtdState = s.rtdState := rfl
@[simp] theorem State.finish_rtdTs (s : State) (ok : Bool) : (s.finish ok).rtdTs = s.rtdTs := rfl
@[simp] theorem State.finish_rtdAsyncBiasWasOn (s : State) (ok : Bool) :
    (s.finish ok).rtdAsyncBiasWasOn = s.rtdAsyncBiasWasOn := rfl
@[simp] theorem State.finish_tcProbe (s : State) (ok : Bool) : (s.finish ok).tcProbe = s.tcProbe := rfl
@[simp] theorem State.finish_tcMask (s : State) (ok : Bool) : (s.finish ok).tcMask = s.tcMask := rfl
@[simp] theorem State.finish_tcOffset (s : State) (ok : Bool) : (s.finish ok).tcOffset = s.tcOffset := rfl
@[simp] theorem State.finish_tcLastFault (s : State) (ok : Bool) : (s.finish ok).tcLastFault = s.tcLastFault := rfl
@[simp] theorem State.finish_csRtd (s : State) (ok : Bool) : (s.finish ok).csRtd = s.csRtd := rfl
@[simp] theorem State.finish_csTc (s : State) (ok : Bool) : (s.finish ok).csTc = s.csTc := rfl
@[simp] theorem State.finish_sclk (s : State) (ok : Bool) : (s.finish ok).sclk = s.sclk := rfl
@[simp] theorem State.finish_mosi (s : State) (ok : Bool) : (s.finish ok).mosi = s.mosi := rfl
@[simp] theorem State.finish_now (s : State) (ok : Bool) : (s.finish ok).now = s.now := rfl
@[simp] theorem State.finish_reverse (s : State) (ok : Bool) : (s.finish ok).reverse = s.reverse := rfl
@[simp] theorem State.finish_rst (s : State) (ok : Bool) : (s.finish ok).rst = s.rst := rfl
@[simp] theorem State.finish_trace (s : State) (ok : Bool) : (s.finish ok).trace = s.trace := rfl
@[simp] theorem State.finish_turns (s : State) (ok : Bool) : (s.finish ok).turns = s.turns := rfl
@[simp] theorem State.finish_misoIn (s : State) (ok : Bool) : (s.finish ok).misoIn = s.misoIn := rfl
@[simp] theorem State.finish_freeCount (s : State) (ok : Bool) : (s.finish ok).freeCount = s.freeCount := rfl
@[simp] theorem State.finish_hostData (s : State) (ok : Bool) : (s.finish ok).hostData = s.hostData := rfl

/-! ### `fail`: failure (60_exceptions.md R134) -/

@[simp] theorem State.fail_params (s : State) (e : CmdError) : (s.fail e).params = s.params := rfl
@[simp] theorem State.fail_cmd (s : State) (e : CmdError) : (s.fail e).cmd = s.cmd := rfl
@[simp] theorem State.fail_status (s : State) (e : CmdError) : (s.fail e).status = s.status.fail e := rfl
@[simp] theorem State.fail_arg0 (s : State) (e : CmdError) : (s.fail e).arg0 = s.arg0 := rfl
@[simp] theorem State.fail_arg1 (s : State) (e : CmdError) : (s.fail e).arg1 = s.arg1 := rfl
@[simp] theorem State.fail_arg2 (s : State) (e : CmdError) : (s.fail e).arg2 = s.arg2 := rfl
@[simp] theorem State.fail_result (s : State) (e : CmdError) : (s.fail e).result = s.result := rfl
@[simp] theorem State.fail_seq (s : State) (e : CmdError) : (s.fail e).seq = .idle := rfl
@[simp] theorem State.fail_latch (s : State) (e : CmdError) : (s.fail e).latch = s.latch := rfl
@[simp] theorem State.fail_tcActive (s : State) (e : CmdError) : (s.fail e).tcActive = s.tcActive := rfl
@[simp] theorem State.fail_rtdActive (s : State) (e : CmdError) : (s.fail e).rtdActive = s.rtdActive := rfl
@[simp] theorem State.fail_outCfg (s : State) (e : CmdError) : (s.fail e).outCfg = s.outCfg := rfl
@[simp] theorem State.fail_curChannel (s : State) (e : CmdError) : (s.fail e).curChannel = s.curChannel := rfl
@[simp] theorem State.fail_cache (s : State) (e : CmdError) : (s.fail e).cache = s.cache := rfl
@[simp] theorem State.fail_sel (s : State) (e : CmdError) : (s.fail e).sel = s.sel := rfl
@[simp] theorem State.fail_route (s : State) (e : CmdError) : (s.fail e).route = s.route := rfl
@[simp] theorem State.fail_muxState (s : State) (e : CmdError) : (s.fail e).muxState = s.muxState := rfl
@[simp] theorem State.fail_muxTs (s : State) (e : CmdError) : (s.fail e).muxTs = s.muxTs := rfl
@[simp] theorem State.fail_cfg (s : State) (e : CmdError) : (s.fail e).cfg = s.cfg := rfl
@[simp] theorem State.fail_rtdProbe (s : State) (e : CmdError) : (s.fail e).rtdProbe = s.rtdProbe := rfl
@[simp] theorem State.fail_rtdState (s : State) (e : CmdError) : (s.fail e).rtdState = s.rtdState := rfl
@[simp] theorem State.fail_rtdTs (s : State) (e : CmdError) : (s.fail e).rtdTs = s.rtdTs := rfl
@[simp] theorem State.fail_rtdAsyncBiasWasOn (s : State) (e : CmdError) :
    (s.fail e).rtdAsyncBiasWasOn = s.rtdAsyncBiasWasOn := rfl
@[simp] theorem State.fail_tcProbe (s : State) (e : CmdError) : (s.fail e).tcProbe = s.tcProbe := rfl
@[simp] theorem State.fail_tcMask (s : State) (e : CmdError) : (s.fail e).tcMask = s.tcMask := rfl
@[simp] theorem State.fail_tcOffset (s : State) (e : CmdError) : (s.fail e).tcOffset = s.tcOffset := rfl
@[simp] theorem State.fail_tcLastFault (s : State) (e : CmdError) : (s.fail e).tcLastFault = s.tcLastFault := rfl
@[simp] theorem State.fail_csRtd (s : State) (e : CmdError) : (s.fail e).csRtd = s.csRtd := rfl
@[simp] theorem State.fail_csTc (s : State) (e : CmdError) : (s.fail e).csTc = s.csTc := rfl
@[simp] theorem State.fail_sclk (s : State) (e : CmdError) : (s.fail e).sclk = s.sclk := rfl
@[simp] theorem State.fail_mosi (s : State) (e : CmdError) : (s.fail e).mosi = s.mosi := rfl
@[simp] theorem State.fail_now (s : State) (e : CmdError) : (s.fail e).now = s.now := rfl
@[simp] theorem State.fail_reverse (s : State) (e : CmdError) : (s.fail e).reverse = s.reverse := rfl
@[simp] theorem State.fail_rst (s : State) (e : CmdError) : (s.fail e).rst = s.rst := rfl
@[simp] theorem State.fail_trace (s : State) (e : CmdError) : (s.fail e).trace = s.trace := rfl
@[simp] theorem State.fail_turns (s : State) (e : CmdError) : (s.fail e).turns = s.turns := rfl
@[simp] theorem State.fail_misoIn (s : State) (e : CmdError) : (s.fail e).misoIn = s.misoIn := rfl
@[simp] theorem State.fail_freeCount (s : State) (e : CmdError) : (s.fail e).freeCount = s.freeCount := rfl
@[simp] theorem State.fail_hostData (s : State) (e : CmdError) : (s.fail e).hostData = s.hostData := rfl

/-! ### `finishWith`: completion with a result -/

@[simp] theorem State.finishWith_params (s : State) (v : Word) : (s.finishWith v).params = s.params := rfl
@[simp] theorem State.finishWith_cmd (s : State) (v : Word) : (s.finishWith v).cmd = s.cmd := rfl
@[simp] theorem State.finishWith_status (s : State) (v : Word) : (s.finishWith v).status = s.status.finish true := rfl
@[simp] theorem State.finishWith_arg0 (s : State) (v : Word) : (s.finishWith v).arg0 = s.arg0 := rfl
@[simp] theorem State.finishWith_arg1 (s : State) (v : Word) : (s.finishWith v).arg1 = s.arg1 := rfl
@[simp] theorem State.finishWith_arg2 (s : State) (v : Word) : (s.finishWith v).arg2 = s.arg2 := rfl
@[simp] theorem State.finishWith_result (s : State) (v : Word) : (s.finishWith v).result = v := rfl
@[simp] theorem State.finishWith_seq (s : State) (v : Word) : (s.finishWith v).seq = .idle := rfl
@[simp] theorem State.finishWith_latch (s : State) (v : Word) : (s.finishWith v).latch = s.latch := rfl
@[simp] theorem State.finishWith_tcActive (s : State) (v : Word) : (s.finishWith v).tcActive = s.tcActive := rfl
@[simp] theorem State.finishWith_rtdActive (s : State) (v : Word) : (s.finishWith v).rtdActive = s.rtdActive := rfl
@[simp] theorem State.finishWith_outCfg (s : State) (v : Word) : (s.finishWith v).outCfg = s.outCfg := rfl
@[simp] theorem State.finishWith_curChannel (s : State) (v : Word) : (s.finishWith v).curChannel = s.curChannel := rfl
@[simp] theorem State.finishWith_cache (s : State) (v : Word) : (s.finishWith v).cache = s.cache := rfl
@[simp] theorem State.finishWith_sel (s : State) (v : Word) : (s.finishWith v).sel = s.sel := rfl
@[simp] theorem State.finishWith_route (s : State) (v : Word) : (s.finishWith v).route = s.route := rfl
@[simp] theorem State.finishWith_muxState (s : State) (v : Word) : (s.finishWith v).muxState = s.muxState := rfl
@[simp] theorem State.finishWith_muxTs (s : State) (v : Word) : (s.finishWith v).muxTs = s.muxTs := rfl
@[simp] theorem State.finishWith_cfg (s : State) (v : Word) : (s.finishWith v).cfg = s.cfg := rfl
@[simp] theorem State.finishWith_rtdProbe (s : State) (v : Word) : (s.finishWith v).rtdProbe = s.rtdProbe := rfl
@[simp] theorem State.finishWith_rtdState (s : State) (v : Word) : (s.finishWith v).rtdState = s.rtdState := rfl
@[simp] theorem State.finishWith_rtdTs (s : State) (v : Word) : (s.finishWith v).rtdTs = s.rtdTs := rfl
@[simp] theorem State.finishWith_rtdAsyncBiasWasOn (s : State) (v : Word) :
    (s.finishWith v).rtdAsyncBiasWasOn = s.rtdAsyncBiasWasOn := rfl
@[simp] theorem State.finishWith_tcProbe (s : State) (v : Word) : (s.finishWith v).tcProbe = s.tcProbe := rfl
@[simp] theorem State.finishWith_tcMask (s : State) (v : Word) : (s.finishWith v).tcMask = s.tcMask := rfl
@[simp] theorem State.finishWith_tcOffset (s : State) (v : Word) : (s.finishWith v).tcOffset = s.tcOffset := rfl
@[simp] theorem State.finishWith_tcLastFault (s : State) (v : Word) :
    (s.finishWith v).tcLastFault = s.tcLastFault := rfl
@[simp] theorem State.finishWith_csRtd (s : State) (v : Word) : (s.finishWith v).csRtd = s.csRtd := rfl
@[simp] theorem State.finishWith_csTc (s : State) (v : Word) : (s.finishWith v).csTc = s.csTc := rfl
@[simp] theorem State.finishWith_sclk (s : State) (v : Word) : (s.finishWith v).sclk = s.sclk := rfl
@[simp] theorem State.finishWith_mosi (s : State) (v : Word) : (s.finishWith v).mosi = s.mosi := rfl
@[simp] theorem State.finishWith_now (s : State) (v : Word) : (s.finishWith v).now = s.now := rfl
@[simp] theorem State.finishWith_reverse (s : State) (v : Word) : (s.finishWith v).reverse = s.reverse := rfl
@[simp] theorem State.finishWith_rst (s : State) (v : Word) : (s.finishWith v).rst = s.rst := rfl
@[simp] theorem State.finishWith_trace (s : State) (v : Word) : (s.finishWith v).trace = s.trace := rfl
@[simp] theorem State.finishWith_turns (s : State) (v : Word) : (s.finishWith v).turns = s.turns := rfl
@[simp] theorem State.finishWith_misoIn (s : State) (v : Word) : (s.finishWith v).misoIn = s.misoIn := rfl
@[simp] theorem State.finishWith_freeCount (s : State) (v : Word) : (s.finishWith v).freeCount = s.freeCount := rfl
@[simp] theorem State.finishWith_hostData (s : State) (v : Word) : (s.finishWith v).hostData = s.hostData := rfl

/-! ### `wait`: the entry of a wait (R9) -/

@[simp] theorem State.wait_params (s : State) (label d : Nat) (flag : Bool) :
    (s.wait label d flag).params = s.params := rfl
@[simp] theorem State.wait_cmd (s : State) (label d : Nat) (flag : Bool) : (s.wait label d flag).cmd = s.cmd := rfl
@[simp] theorem State.wait_status (s : State) (label d : Nat) (flag : Bool) :
    (s.wait label d flag).status = s.status := rfl
@[simp] theorem State.wait_arg0 (s : State) (label d : Nat) (flag : Bool) : (s.wait label d flag).arg0 = s.arg0 := rfl
@[simp] theorem State.wait_arg1 (s : State) (label d : Nat) (flag : Bool) : (s.wait label d flag).arg1 = s.arg1 := rfl
@[simp] theorem State.wait_arg2 (s : State) (label d : Nat) (flag : Bool) : (s.wait label d flag).arg2 = s.arg2 := rfl
@[simp] theorem State.wait_result (s : State) (label d : Nat) (flag : Bool) :
    (s.wait label d flag).result = s.result := rfl
@[simp] theorem State.wait_seq (s : State) (label d : Nat) (flag : Bool) :
    (s.wait label d flag).seq = .hold label s.now d flag := rfl
@[simp] theorem State.wait_latch (s : State) (label d : Nat) (flag : Bool) :
    (s.wait label d flag).latch = s.latch := rfl
@[simp] theorem State.wait_tcActive (s : State) (label d : Nat) (flag : Bool) :
    (s.wait label d flag).tcActive = s.tcActive := rfl
@[simp] theorem State.wait_rtdActive (s : State) (label d : Nat) (flag : Bool) :
    (s.wait label d flag).rtdActive = s.rtdActive := rfl
@[simp] theorem State.wait_outCfg (s : State) (label d : Nat) (flag : Bool) :
    (s.wait label d flag).outCfg = s.outCfg := rfl
@[simp] theorem State.wait_curChannel (s : State) (label d : Nat) (flag : Bool) :
    (s.wait label d flag).curChannel = s.curChannel := rfl
@[simp] theorem State.wait_cache (s : State) (label d : Nat) (flag : Bool) :
    (s.wait label d flag).cache = s.cache := rfl
@[simp] theorem State.wait_sel (s : State) (label d : Nat) (flag : Bool) : (s.wait label d flag).sel = s.sel := rfl
@[simp] theorem State.wait_route (s : State) (label d : Nat) (flag : Bool) :
    (s.wait label d flag).route = s.route := rfl
@[simp] theorem State.wait_muxState (s : State) (label d : Nat) (flag : Bool) :
    (s.wait label d flag).muxState = s.muxState := rfl
@[simp] theorem State.wait_muxTs (s : State) (label d : Nat) (flag : Bool) :
    (s.wait label d flag).muxTs = s.muxTs := rfl
@[simp] theorem State.wait_cfg (s : State) (label d : Nat) (flag : Bool) : (s.wait label d flag).cfg = s.cfg := rfl
@[simp] theorem State.wait_rtdProbe (s : State) (label d : Nat) (flag : Bool) :
    (s.wait label d flag).rtdProbe = s.rtdProbe := rfl
@[simp] theorem State.wait_rtdState (s : State) (label d : Nat) (flag : Bool) :
    (s.wait label d flag).rtdState = s.rtdState := rfl
@[simp] theorem State.wait_rtdTs (s : State) (label d : Nat) (flag : Bool) :
    (s.wait label d flag).rtdTs = s.rtdTs := rfl
@[simp] theorem State.wait_rtdAsyncBiasWasOn (s : State) (label d : Nat) (flag : Bool) :
    (s.wait label d flag).rtdAsyncBiasWasOn = s.rtdAsyncBiasWasOn := rfl
@[simp] theorem State.wait_tcProbe (s : State) (label d : Nat) (flag : Bool) :
    (s.wait label d flag).tcProbe = s.tcProbe := rfl
@[simp] theorem State.wait_tcMask (s : State) (label d : Nat) (flag : Bool) :
    (s.wait label d flag).tcMask = s.tcMask := rfl
@[simp] theorem State.wait_tcOffset (s : State) (label d : Nat) (flag : Bool) :
    (s.wait label d flag).tcOffset = s.tcOffset := rfl
@[simp] theorem State.wait_tcLastFault (s : State) (label d : Nat) (flag : Bool) :
    (s.wait label d flag).tcLastFault = s.tcLastFault := rfl
@[simp] theorem State.wait_csRtd (s : State) (label d : Nat) (flag : Bool) :
    (s.wait label d flag).csRtd = s.csRtd := rfl
@[simp] theorem State.wait_csTc (s : State) (label d : Nat) (flag : Bool) : (s.wait label d flag).csTc = s.csTc := rfl
@[simp] theorem State.wait_sclk (s : State) (label d : Nat) (flag : Bool) : (s.wait label d flag).sclk = s.sclk := rfl
@[simp] theorem State.wait_mosi (s : State) (label d : Nat) (flag : Bool) : (s.wait label d flag).mosi = s.mosi := rfl
@[simp] theorem State.wait_now (s : State) (label d : Nat) (flag : Bool) : (s.wait label d flag).now = s.now := rfl
@[simp] theorem State.wait_reverse (s : State) (label d : Nat) (flag : Bool) :
    (s.wait label d flag).reverse = s.reverse := rfl
@[simp] theorem State.wait_rst (s : State) (label d : Nat) (flag : Bool) : (s.wait label d flag).rst = s.rst := rfl
@[simp] theorem State.wait_trace (s : State) (label d : Nat) (flag : Bool) :
    (s.wait label d flag).trace = s.trace := rfl
@[simp] theorem State.wait_turns (s : State) (label d : Nat) (flag : Bool) :
    (s.wait label d flag).turns = s.turns := rfl
@[simp] theorem State.wait_misoIn (s : State) (label d : Nat) (flag : Bool) :
    (s.wait label d flag).misoIn = s.misoIn := rfl
@[simp] theorem State.wait_freeCount (s : State) (label d : Nat) (flag : Bool) :
    (s.wait label d flag).freeCount = s.freeCount := rfl
@[simp] theorem State.wait_hostData (s : State) (label d : Nat) (flag : Bool) :
    (s.wait label d flag).hostData = s.hostData := rfl

/-! ### `setBias`: the bias flag (10_state.md R24) -/

@[simp] theorem State.setBias_params (s : State) (on : Bool) : (s.setBias on).params = s.params := rfl
@[simp] theorem State.setBias_cmd (s : State) (on : Bool) : (s.setBias on).cmd = s.cmd := rfl
@[simp] theorem State.setBias_status (s : State) (on : Bool) : (s.setBias on).status = s.status := rfl
@[simp] theorem State.setBias_arg0 (s : State) (on : Bool) : (s.setBias on).arg0 = s.arg0 := rfl
@[simp] theorem State.setBias_arg1 (s : State) (on : Bool) : (s.setBias on).arg1 = s.arg1 := rfl
@[simp] theorem State.setBias_arg2 (s : State) (on : Bool) : (s.setBias on).arg2 = s.arg2 := rfl
@[simp] theorem State.setBias_result (s : State) (on : Bool) : (s.setBias on).result = s.result := rfl
@[simp] theorem State.setBias_seq (s : State) (on : Bool) : (s.setBias on).seq = s.seq := rfl
@[simp] theorem State.setBias_latch (s : State) (on : Bool) : (s.setBias on).latch = s.latch := rfl
@[simp] theorem State.setBias_tcActive (s : State) (on : Bool) : (s.setBias on).tcActive = s.tcActive := rfl
@[simp] theorem State.setBias_rtdActive (s : State) (on : Bool) : (s.setBias on).rtdActive = s.rtdActive := rfl
@[simp] theorem State.setBias_outCfg (s : State) (on : Bool) : (s.setBias on).outCfg = s.outCfg := rfl
@[simp] theorem State.setBias_curChannel (s : State) (on : Bool) : (s.setBias on).curChannel = s.curChannel := rfl
@[simp] theorem State.setBias_cache (s : State) (on : Bool) : (s.setBias on).cache = s.cache := rfl
@[simp] theorem State.setBias_sel (s : State) (on : Bool) : (s.setBias on).sel = s.sel := rfl
@[simp] theorem State.setBias_route (s : State) (on : Bool) : (s.setBias on).route = s.route := rfl
@[simp] theorem State.setBias_muxState (s : State) (on : Bool) : (s.setBias on).muxState = s.muxState := rfl
@[simp] theorem State.setBias_muxTs (s : State) (on : Bool) : (s.setBias on).muxTs = s.muxTs := rfl
@[simp] theorem State.setBias_cfg (s : State) (on : Bool) :
    (s.setBias on).cfg = putBits s.cfg s.params.cfgBias on := rfl
@[simp] theorem State.setBias_rtdProbe (s : State) (on : Bool) : (s.setBias on).rtdProbe = s.rtdProbe := rfl
@[simp] theorem State.setBias_rtdState (s : State) (on : Bool) : (s.setBias on).rtdState = s.rtdState := rfl
@[simp] theorem State.setBias_rtdTs (s : State) (on : Bool) : (s.setBias on).rtdTs = s.rtdTs := rfl
@[simp] theorem State.setBias_rtdAsyncBiasWasOn (s : State) (on : Bool) :
    (s.setBias on).rtdAsyncBiasWasOn = s.rtdAsyncBiasWasOn := rfl
@[simp] theorem State.setBias_tcProbe (s : State) (on : Bool) : (s.setBias on).tcProbe = s.tcProbe := rfl
@[simp] theorem State.setBias_tcMask (s : State) (on : Bool) : (s.setBias on).tcMask = s.tcMask := rfl
@[simp] theorem State.setBias_tcOffset (s : State) (on : Bool) : (s.setBias on).tcOffset = s.tcOffset := rfl
@[simp] theorem State.setBias_tcLastFault (s : State) (on : Bool) : (s.setBias on).tcLastFault = s.tcLastFault := rfl
@[simp] theorem State.setBias_csRtd (s : State) (on : Bool) : (s.setBias on).csRtd = s.csRtd := rfl
@[simp] theorem State.setBias_csTc (s : State) (on : Bool) : (s.setBias on).csTc = s.csTc := rfl
@[simp] theorem State.setBias_sclk (s : State) (on : Bool) : (s.setBias on).sclk = s.sclk := rfl
@[simp] theorem State.setBias_mosi (s : State) (on : Bool) : (s.setBias on).mosi = s.mosi := rfl
@[simp] theorem State.setBias_now (s : State) (on : Bool) : (s.setBias on).now = s.now := rfl
@[simp] theorem State.setBias_reverse (s : State) (on : Bool) : (s.setBias on).reverse = s.reverse := rfl
@[simp] theorem State.setBias_rst (s : State) (on : Bool) : (s.setBias on).rst = s.rst := rfl
@[simp] theorem State.setBias_trace (s : State) (on : Bool) : (s.setBias on).trace = s.trace := rfl
@[simp] theorem State.setBias_turns (s : State) (on : Bool) : (s.setBias on).turns = s.turns := rfl
@[simp] theorem State.setBias_misoIn (s : State) (on : Bool) : (s.setBias on).misoIn = s.misoIn := rfl
@[simp] theorem State.setBias_freeCount (s : State) (on : Bool) : (s.setBias on).freeCount = s.freeCount := rfl
@[simp] theorem State.setBias_hostData (s : State) (on : Bool) : (s.setBias on).hostData = s.hostData := rfl

/-! ### `setAuto`: the continuous flag (R24) -/

@[simp] theorem State.setAuto_params (s : State) (on : Bool) : (s.setAuto on).params = s.params := rfl
@[simp] theorem State.setAuto_cmd (s : State) (on : Bool) : (s.setAuto on).cmd = s.cmd := rfl
@[simp] theorem State.setAuto_status (s : State) (on : Bool) : (s.setAuto on).status = s.status := rfl
@[simp] theorem State.setAuto_arg0 (s : State) (on : Bool) : (s.setAuto on).arg0 = s.arg0 := rfl
@[simp] theorem State.setAuto_arg1 (s : State) (on : Bool) : (s.setAuto on).arg1 = s.arg1 := rfl
@[simp] theorem State.setAuto_arg2 (s : State) (on : Bool) : (s.setAuto on).arg2 = s.arg2 := rfl
@[simp] theorem State.setAuto_result (s : State) (on : Bool) : (s.setAuto on).result = s.result := rfl
@[simp] theorem State.setAuto_seq (s : State) (on : Bool) : (s.setAuto on).seq = s.seq := rfl
@[simp] theorem State.setAuto_latch (s : State) (on : Bool) : (s.setAuto on).latch = s.latch := rfl
@[simp] theorem State.setAuto_tcActive (s : State) (on : Bool) : (s.setAuto on).tcActive = s.tcActive := rfl
@[simp] theorem State.setAuto_rtdActive (s : State) (on : Bool) : (s.setAuto on).rtdActive = s.rtdActive := rfl
@[simp] theorem State.setAuto_outCfg (s : State) (on : Bool) : (s.setAuto on).outCfg = s.outCfg := rfl
@[simp] theorem State.setAuto_curChannel (s : State) (on : Bool) : (s.setAuto on).curChannel = s.curChannel := rfl
@[simp] theorem State.setAuto_cache (s : State) (on : Bool) : (s.setAuto on).cache = s.cache := rfl
@[simp] theorem State.setAuto_sel (s : State) (on : Bool) : (s.setAuto on).sel = s.sel := rfl
@[simp] theorem State.setAuto_route (s : State) (on : Bool) : (s.setAuto on).route = s.route := rfl
@[simp] theorem State.setAuto_muxState (s : State) (on : Bool) : (s.setAuto on).muxState = s.muxState := rfl
@[simp] theorem State.setAuto_muxTs (s : State) (on : Bool) : (s.setAuto on).muxTs = s.muxTs := rfl
@[simp] theorem State.setAuto_cfg (s : State) (on : Bool) :
    (s.setAuto on).cfg = putBits s.cfg s.params.cfgAuto on := rfl
@[simp] theorem State.setAuto_rtdProbe (s : State) (on : Bool) : (s.setAuto on).rtdProbe = s.rtdProbe := rfl
@[simp] theorem State.setAuto_rtdState (s : State) (on : Bool) : (s.setAuto on).rtdState = s.rtdState := rfl
@[simp] theorem State.setAuto_rtdTs (s : State) (on : Bool) : (s.setAuto on).rtdTs = s.rtdTs := rfl
@[simp] theorem State.setAuto_rtdAsyncBiasWasOn (s : State) (on : Bool) :
    (s.setAuto on).rtdAsyncBiasWasOn = s.rtdAsyncBiasWasOn := rfl
@[simp] theorem State.setAuto_tcProbe (s : State) (on : Bool) : (s.setAuto on).tcProbe = s.tcProbe := rfl
@[simp] theorem State.setAuto_tcMask (s : State) (on : Bool) : (s.setAuto on).tcMask = s.tcMask := rfl
@[simp] theorem State.setAuto_tcOffset (s : State) (on : Bool) : (s.setAuto on).tcOffset = s.tcOffset := rfl
@[simp] theorem State.setAuto_tcLastFault (s : State) (on : Bool) : (s.setAuto on).tcLastFault = s.tcLastFault := rfl
@[simp] theorem State.setAuto_csRtd (s : State) (on : Bool) : (s.setAuto on).csRtd = s.csRtd := rfl
@[simp] theorem State.setAuto_csTc (s : State) (on : Bool) : (s.setAuto on).csTc = s.csTc := rfl
@[simp] theorem State.setAuto_sclk (s : State) (on : Bool) : (s.setAuto on).sclk = s.sclk := rfl
@[simp] theorem State.setAuto_mosi (s : State) (on : Bool) : (s.setAuto on).mosi = s.mosi := rfl
@[simp] theorem State.setAuto_now (s : State) (on : Bool) : (s.setAuto on).now = s.now := rfl
@[simp] theorem State.setAuto_reverse (s : State) (on : Bool) : (s.setAuto on).reverse = s.reverse := rfl
@[simp] theorem State.setAuto_rst (s : State) (on : Bool) : (s.setAuto on).rst = s.rst := rfl
@[simp] theorem State.setAuto_trace (s : State) (on : Bool) : (s.setAuto on).trace = s.trace := rfl
@[simp] theorem State.setAuto_turns (s : State) (on : Bool) : (s.setAuto on).turns = s.turns := rfl
@[simp] theorem State.setAuto_misoIn (s : State) (on : Bool) : (s.setAuto on).misoIn = s.misoIn := rfl
@[simp] theorem State.setAuto_freeCount (s : State) (on : Bool) : (s.setAuto on).freeCount = s.freeCount := rfl
@[simp] theorem State.setAuto_hostData (s : State) (on : Bool) : (s.setAuto on).hostData = s.hostData := rfl

/-! ### `setFilter50`: the filter flag (R24) -/

@[simp] theorem State.setFilter50_params (s : State) (on : Bool) : (s.setFilter50 on).params = s.params := rfl
@[simp] theorem State.setFilter50_cmd (s : State) (on : Bool) : (s.setFilter50 on).cmd = s.cmd := rfl
@[simp] theorem State.setFilter50_status (s : State) (on : Bool) : (s.setFilter50 on).status = s.status := rfl
@[simp] theorem State.setFilter50_arg0 (s : State) (on : Bool) : (s.setFilter50 on).arg0 = s.arg0 := rfl
@[simp] theorem State.setFilter50_arg1 (s : State) (on : Bool) : (s.setFilter50 on).arg1 = s.arg1 := rfl
@[simp] theorem State.setFilter50_arg2 (s : State) (on : Bool) : (s.setFilter50 on).arg2 = s.arg2 := rfl
@[simp] theorem State.setFilter50_result (s : State) (on : Bool) : (s.setFilter50 on).result = s.result := rfl
@[simp] theorem State.setFilter50_seq (s : State) (on : Bool) : (s.setFilter50 on).seq = s.seq := rfl
@[simp] theorem State.setFilter50_latch (s : State) (on : Bool) : (s.setFilter50 on).latch = s.latch := rfl
@[simp] theorem State.setFilter50_tcActive (s : State) (on : Bool) : (s.setFilter50 on).tcActive = s.tcActive := rfl
@[simp] theorem State.setFilter50_rtdActive (s : State) (on : Bool) :
    (s.setFilter50 on).rtdActive = s.rtdActive := rfl
@[simp] theorem State.setFilter50_outCfg (s : State) (on : Bool) : (s.setFilter50 on).outCfg = s.outCfg := rfl
@[simp] theorem State.setFilter50_curChannel (s : State) (on : Bool) :
    (s.setFilter50 on).curChannel = s.curChannel := rfl
@[simp] theorem State.setFilter50_cache (s : State) (on : Bool) : (s.setFilter50 on).cache = s.cache := rfl
@[simp] theorem State.setFilter50_sel (s : State) (on : Bool) : (s.setFilter50 on).sel = s.sel := rfl
@[simp] theorem State.setFilter50_route (s : State) (on : Bool) : (s.setFilter50 on).route = s.route := rfl
@[simp] theorem State.setFilter50_muxState (s : State) (on : Bool) : (s.setFilter50 on).muxState = s.muxState := rfl
@[simp] theorem State.setFilter50_muxTs (s : State) (on : Bool) : (s.setFilter50 on).muxTs = s.muxTs := rfl
@[simp] theorem State.setFilter50_cfg (s : State) (on : Bool) :
    (s.setFilter50 on).cfg = putBits s.cfg s.params.cfgFilter50 on := rfl
@[simp] theorem State.setFilter50_rtdProbe (s : State) (on : Bool) : (s.setFilter50 on).rtdProbe = s.rtdProbe := rfl
@[simp] theorem State.setFilter50_rtdState (s : State) (on : Bool) : (s.setFilter50 on).rtdState = s.rtdState := rfl
@[simp] theorem State.setFilter50_rtdTs (s : State) (on : Bool) : (s.setFilter50 on).rtdTs = s.rtdTs := rfl
@[simp] theorem State.setFilter50_rtdAsyncBiasWasOn (s : State) (on : Bool) :
    (s.setFilter50 on).rtdAsyncBiasWasOn = s.rtdAsyncBiasWasOn := rfl
@[simp] theorem State.setFilter50_tcProbe (s : State) (on : Bool) : (s.setFilter50 on).tcProbe = s.tcProbe := rfl
@[simp] theorem State.setFilter50_tcMask (s : State) (on : Bool) : (s.setFilter50 on).tcMask = s.tcMask := rfl
@[simp] theorem State.setFilter50_tcOffset (s : State) (on : Bool) : (s.setFilter50 on).tcOffset = s.tcOffset := rfl
@[simp] theorem State.setFilter50_tcLastFault (s : State) (on : Bool) :
    (s.setFilter50 on).tcLastFault = s.tcLastFault := rfl
@[simp] theorem State.setFilter50_csRtd (s : State) (on : Bool) : (s.setFilter50 on).csRtd = s.csRtd := rfl
@[simp] theorem State.setFilter50_csTc (s : State) (on : Bool) : (s.setFilter50 on).csTc = s.csTc := rfl
@[simp] theorem State.setFilter50_sclk (s : State) (on : Bool) : (s.setFilter50 on).sclk = s.sclk := rfl
@[simp] theorem State.setFilter50_mosi (s : State) (on : Bool) : (s.setFilter50 on).mosi = s.mosi := rfl
@[simp] theorem State.setFilter50_now (s : State) (on : Bool) : (s.setFilter50 on).now = s.now := rfl
@[simp] theorem State.setFilter50_reverse (s : State) (on : Bool) : (s.setFilter50 on).reverse = s.reverse := rfl
@[simp] theorem State.setFilter50_rst (s : State) (on : Bool) : (s.setFilter50 on).rst = s.rst := rfl
@[simp] theorem State.setFilter50_trace (s : State) (on : Bool) : (s.setFilter50 on).trace = s.trace := rfl
@[simp] theorem State.setFilter50_turns (s : State) (on : Bool) : (s.setFilter50 on).turns = s.turns := rfl
@[simp] theorem State.setFilter50_misoIn (s : State) (on : Bool) : (s.setFilter50 on).misoIn = s.misoIn := rfl
@[simp] theorem State.setFilter50_freeCount (s : State) (on : Bool) :
    (s.setFilter50 on).freeCount = s.freeCount := rfl
@[simp] theorem State.setFilter50_hostData (s : State) (on : Bool) : (s.setFilter50 on).hostData = s.hostData := rfl

/-! ### `setWire3`: the wire flag (R24) -/

@[simp] theorem State.setWire3_params (s : State) (on : Bool) : (s.setWire3 on).params = s.params := rfl
@[simp] theorem State.setWire3_cmd (s : State) (on : Bool) : (s.setWire3 on).cmd = s.cmd := rfl
@[simp] theorem State.setWire3_status (s : State) (on : Bool) : (s.setWire3 on).status = s.status := rfl
@[simp] theorem State.setWire3_arg0 (s : State) (on : Bool) : (s.setWire3 on).arg0 = s.arg0 := rfl
@[simp] theorem State.setWire3_arg1 (s : State) (on : Bool) : (s.setWire3 on).arg1 = s.arg1 := rfl
@[simp] theorem State.setWire3_arg2 (s : State) (on : Bool) : (s.setWire3 on).arg2 = s.arg2 := rfl
@[simp] theorem State.setWire3_result (s : State) (on : Bool) : (s.setWire3 on).result = s.result := rfl
@[simp] theorem State.setWire3_seq (s : State) (on : Bool) : (s.setWire3 on).seq = s.seq := rfl
@[simp] theorem State.setWire3_latch (s : State) (on : Bool) : (s.setWire3 on).latch = s.latch := rfl
@[simp] theorem State.setWire3_tcActive (s : State) (on : Bool) : (s.setWire3 on).tcActive = s.tcActive := rfl
@[simp] theorem State.setWire3_rtdActive (s : State) (on : Bool) : (s.setWire3 on).rtdActive = s.rtdActive := rfl
@[simp] theorem State.setWire3_outCfg (s : State) (on : Bool) : (s.setWire3 on).outCfg = s.outCfg := rfl
@[simp] theorem State.setWire3_curChannel (s : State) (on : Bool) : (s.setWire3 on).curChannel = s.curChannel := rfl
@[simp] theorem State.setWire3_cache (s : State) (on : Bool) : (s.setWire3 on).cache = s.cache := rfl
@[simp] theorem State.setWire3_sel (s : State) (on : Bool) : (s.setWire3 on).sel = s.sel := rfl
@[simp] theorem State.setWire3_route (s : State) (on : Bool) : (s.setWire3 on).route = s.route := rfl
@[simp] theorem State.setWire3_muxState (s : State) (on : Bool) : (s.setWire3 on).muxState = s.muxState := rfl
@[simp] theorem State.setWire3_muxTs (s : State) (on : Bool) : (s.setWire3 on).muxTs = s.muxTs := rfl
@[simp] theorem State.setWire3_cfg (s : State) (on : Bool) :
    (s.setWire3 on).cfg = putBits s.cfg s.params.cfgWire3 on := rfl
@[simp] theorem State.setWire3_rtdProbe (s : State) (on : Bool) : (s.setWire3 on).rtdProbe = s.rtdProbe := rfl
@[simp] theorem State.setWire3_rtdState (s : State) (on : Bool) : (s.setWire3 on).rtdState = s.rtdState := rfl
@[simp] theorem State.setWire3_rtdTs (s : State) (on : Bool) : (s.setWire3 on).rtdTs = s.rtdTs := rfl
@[simp] theorem State.setWire3_rtdAsyncBiasWasOn (s : State) (on : Bool) :
    (s.setWire3 on).rtdAsyncBiasWasOn = s.rtdAsyncBiasWasOn := rfl
@[simp] theorem State.setWire3_tcProbe (s : State) (on : Bool) : (s.setWire3 on).tcProbe = s.tcProbe := rfl
@[simp] theorem State.setWire3_tcMask (s : State) (on : Bool) : (s.setWire3 on).tcMask = s.tcMask := rfl
@[simp] theorem State.setWire3_tcOffset (s : State) (on : Bool) : (s.setWire3 on).tcOffset = s.tcOffset := rfl
@[simp] theorem State.setWire3_tcLastFault (s : State) (on : Bool) :
    (s.setWire3 on).tcLastFault = s.tcLastFault := rfl
@[simp] theorem State.setWire3_csRtd (s : State) (on : Bool) : (s.setWire3 on).csRtd = s.csRtd := rfl
@[simp] theorem State.setWire3_csTc (s : State) (on : Bool) : (s.setWire3 on).csTc = s.csTc := rfl
@[simp] theorem State.setWire3_sclk (s : State) (on : Bool) : (s.setWire3 on).sclk = s.sclk := rfl
@[simp] theorem State.setWire3_mosi (s : State) (on : Bool) : (s.setWire3 on).mosi = s.mosi := rfl
@[simp] theorem State.setWire3_now (s : State) (on : Bool) : (s.setWire3 on).now = s.now := rfl
@[simp] theorem State.setWire3_reverse (s : State) (on : Bool) : (s.setWire3 on).reverse = s.reverse := rfl
@[simp] theorem State.setWire3_rst (s : State) (on : Bool) : (s.setWire3 on).rst = s.rst := rfl
@[simp] theorem State.setWire3_trace (s : State) (on : Bool) : (s.setWire3 on).trace = s.trace := rfl
@[simp] theorem State.setWire3_turns (s : State) (on : Bool) : (s.setWire3 on).turns = s.turns := rfl
@[simp] theorem State.setWire3_misoIn (s : State) (on : Bool) : (s.setWire3 on).misoIn = s.misoIn := rfl
@[simp] theorem State.setWire3_freeCount (s : State) (on : Bool) : (s.setWire3 on).freeCount = s.freeCount := rfl
@[simp] theorem State.setWire3_hostData (s : State) (on : Bool) : (s.setWire3 on).hostData = s.hostData := rfl

/-! ### `rtdType`: the recorded RTD probe (41_rtd_engine.md R74) -/

@[simp] theorem State.rtdType_params (s : State) (p : ProbeType) : (s.rtdType p).params = s.params := rfl
@[simp] theorem State.rtdType_cmd (s : State) (p : ProbeType) : (s.rtdType p).cmd = s.cmd := rfl
@[simp] theorem State.rtdType_status (s : State) (p : ProbeType) : (s.rtdType p).status = s.status := rfl
@[simp] theorem State.rtdType_arg0 (s : State) (p : ProbeType) : (s.rtdType p).arg0 = s.arg0 := rfl
@[simp] theorem State.rtdType_arg1 (s : State) (p : ProbeType) : (s.rtdType p).arg1 = s.arg1 := rfl
@[simp] theorem State.rtdType_arg2 (s : State) (p : ProbeType) : (s.rtdType p).arg2 = s.arg2 := rfl
@[simp] theorem State.rtdType_result (s : State) (p : ProbeType) : (s.rtdType p).result = s.result := rfl
@[simp] theorem State.rtdType_seq (s : State) (p : ProbeType) : (s.rtdType p).seq = s.seq := rfl
@[simp] theorem State.rtdType_latch (s : State) (p : ProbeType) : (s.rtdType p).latch = s.latch := rfl
@[simp] theorem State.rtdType_tcActive (s : State) (p : ProbeType) : (s.rtdType p).tcActive = s.tcActive := rfl
@[simp] theorem State.rtdType_rtdActive (s : State) (p : ProbeType) : (s.rtdType p).rtdActive = s.rtdActive := rfl
@[simp] theorem State.rtdType_outCfg (s : State) (p : ProbeType) : (s.rtdType p).outCfg = s.outCfg := rfl
@[simp] theorem State.rtdType_curChannel (s : State) (p : ProbeType) : (s.rtdType p).curChannel = s.curChannel := rfl
@[simp] theorem State.rtdType_cache (s : State) (p : ProbeType) : (s.rtdType p).cache = s.cache := rfl
@[simp] theorem State.rtdType_sel (s : State) (p : ProbeType) : (s.rtdType p).sel = s.sel := rfl
@[simp] theorem State.rtdType_route (s : State) (p : ProbeType) : (s.rtdType p).route = s.route := rfl
@[simp] theorem State.rtdType_muxState (s : State) (p : ProbeType) : (s.rtdType p).muxState = s.muxState := rfl
@[simp] theorem State.rtdType_muxTs (s : State) (p : ProbeType) : (s.rtdType p).muxTs = s.muxTs := rfl
@[simp] theorem State.rtdType_cfg (s : State) (p : ProbeType) :
    (s.rtdType p).cfg = putBits s.cfg s.params.cfgWire3 (decide (p = .rtd3W)) := rfl
@[simp] theorem State.rtdType_rtdProbe (s : State) (p : ProbeType) : (s.rtdType p).rtdProbe = p := rfl
@[simp] theorem State.rtdType_rtdState (s : State) (p : ProbeType) : (s.rtdType p).rtdState = s.rtdState := rfl
@[simp] theorem State.rtdType_rtdTs (s : State) (p : ProbeType) : (s.rtdType p).rtdTs = s.rtdTs := rfl
@[simp] theorem State.rtdType_rtdAsyncBiasWasOn (s : State) (p : ProbeType) :
    (s.rtdType p).rtdAsyncBiasWasOn = s.rtdAsyncBiasWasOn := rfl
@[simp] theorem State.rtdType_tcProbe (s : State) (p : ProbeType) : (s.rtdType p).tcProbe = s.tcProbe := rfl
@[simp] theorem State.rtdType_tcMask (s : State) (p : ProbeType) : (s.rtdType p).tcMask = s.tcMask := rfl
@[simp] theorem State.rtdType_tcOffset (s : State) (p : ProbeType) : (s.rtdType p).tcOffset = s.tcOffset := rfl
@[simp] theorem State.rtdType_tcLastFault (s : State) (p : ProbeType) :
    (s.rtdType p).tcLastFault = s.tcLastFault := rfl
@[simp] theorem State.rtdType_csRtd (s : State) (p : ProbeType) : (s.rtdType p).csRtd = s.csRtd := rfl
@[simp] theorem State.rtdType_csTc (s : State) (p : ProbeType) : (s.rtdType p).csTc = s.csTc := rfl
@[simp] theorem State.rtdType_sclk (s : State) (p : ProbeType) : (s.rtdType p).sclk = s.sclk := rfl
@[simp] theorem State.rtdType_mosi (s : State) (p : ProbeType) : (s.rtdType p).mosi = s.mosi := rfl
@[simp] theorem State.rtdType_now (s : State) (p : ProbeType) : (s.rtdType p).now = s.now := rfl
@[simp] theorem State.rtdType_reverse (s : State) (p : ProbeType) : (s.rtdType p).reverse = s.reverse := rfl
@[simp] theorem State.rtdType_rst (s : State) (p : ProbeType) : (s.rtdType p).rst = s.rst := rfl
@[simp] theorem State.rtdType_trace (s : State) (p : ProbeType) : (s.rtdType p).trace = s.trace := rfl
@[simp] theorem State.rtdType_turns (s : State) (p : ProbeType) : (s.rtdType p).turns = s.turns := rfl
@[simp] theorem State.rtdType_misoIn (s : State) (p : ProbeType) : (s.rtdType p).misoIn = s.misoIn := rfl
@[simp] theorem State.rtdType_freeCount (s : State) (p : ProbeType) : (s.rtdType p).freeCount = s.freeCount := rfl
@[simp] theorem State.rtdType_hostData (s : State) (p : ProbeType) : (s.rtdType p).hostData = s.hostData := rfl

/-! ### `cacheProbe`: the probe cache (10_state.md R22) -/

@[simp] theorem State.cacheProbe_params (s : State) (ch : Channel) (p : ProbeType) :
    (s.cacheProbe ch p).params = s.params := rfl
@[simp] theorem State.cacheProbe_cmd (s : State) (ch : Channel) (p : ProbeType) :
    (s.cacheProbe ch p).cmd = s.cmd := rfl
@[simp] theorem State.cacheProbe_status (s : State) (ch : Channel) (p : ProbeType) :
    (s.cacheProbe ch p).status = s.status := rfl
@[simp] theorem State.cacheProbe_arg0 (s : State) (ch : Channel) (p : ProbeType) :
    (s.cacheProbe ch p).arg0 = s.arg0 := rfl
@[simp] theorem State.cacheProbe_arg1 (s : State) (ch : Channel) (p : ProbeType) :
    (s.cacheProbe ch p).arg1 = s.arg1 := rfl
@[simp] theorem State.cacheProbe_arg2 (s : State) (ch : Channel) (p : ProbeType) :
    (s.cacheProbe ch p).arg2 = s.arg2 := rfl
@[simp] theorem State.cacheProbe_result (s : State) (ch : Channel) (p : ProbeType) :
    (s.cacheProbe ch p).result = s.result := rfl
@[simp] theorem State.cacheProbe_seq (s : State) (ch : Channel) (p : ProbeType) :
    (s.cacheProbe ch p).seq = s.seq := rfl
@[simp] theorem State.cacheProbe_latch (s : State) (ch : Channel) (p : ProbeType) :
    (s.cacheProbe ch p).latch = s.latch := rfl
@[simp] theorem State.cacheProbe_tcActive (s : State) (ch : Channel) (p : ProbeType) :
    (s.cacheProbe ch p).tcActive = s.tcActive := rfl
@[simp] theorem State.cacheProbe_rtdActive (s : State) (ch : Channel) (p : ProbeType) :
    (s.cacheProbe ch p).rtdActive = s.rtdActive := rfl
@[simp] theorem State.cacheProbe_outCfg (s : State) (ch : Channel) (p : ProbeType) :
    (s.cacheProbe ch p).outCfg = s.outCfg := rfl
@[simp] theorem State.cacheProbe_curChannel (s : State) (ch : Channel) (p : ProbeType) :
    (s.cacheProbe ch p).curChannel = s.curChannel := rfl
@[simp] theorem State.cacheProbe_cache (s : State) (ch : Channel) (p : ProbeType) :
    (s.cacheProbe ch p).cache = s.cache.set ch p := rfl
@[simp] theorem State.cacheProbe_sel (s : State) (ch : Channel) (p : ProbeType) :
    (s.cacheProbe ch p).sel = s.sel := rfl
@[simp] theorem State.cacheProbe_route (s : State) (ch : Channel) (p : ProbeType) :
    (s.cacheProbe ch p).route = s.route := rfl
@[simp] theorem State.cacheProbe_muxState (s : State) (ch : Channel) (p : ProbeType) :
    (s.cacheProbe ch p).muxState = s.muxState := rfl
@[simp] theorem State.cacheProbe_muxTs (s : State) (ch : Channel) (p : ProbeType) :
    (s.cacheProbe ch p).muxTs = s.muxTs := rfl
@[simp] theorem State.cacheProbe_cfg (s : State) (ch : Channel) (p : ProbeType) :
    (s.cacheProbe ch p).cfg = s.cfg := rfl
@[simp] theorem State.cacheProbe_rtdProbe (s : State) (ch : Channel) (p : ProbeType) :
    (s.cacheProbe ch p).rtdProbe = s.rtdProbe := rfl
@[simp] theorem State.cacheProbe_rtdState (s : State) (ch : Channel) (p : ProbeType) :
    (s.cacheProbe ch p).rtdState = s.rtdState := rfl
@[simp] theorem State.cacheProbe_rtdTs (s : State) (ch : Channel) (p : ProbeType) :
    (s.cacheProbe ch p).rtdTs = s.rtdTs := rfl
@[simp] theorem State.cacheProbe_rtdAsyncBiasWasOn (s : State) (ch : Channel) (p : ProbeType) :
    (s.cacheProbe ch p).rtdAsyncBiasWasOn = s.rtdAsyncBiasWasOn := rfl
@[simp] theorem State.cacheProbe_tcProbe (s : State) (ch : Channel) (p : ProbeType) :
    (s.cacheProbe ch p).tcProbe = s.tcProbe := rfl
@[simp] theorem State.cacheProbe_tcMask (s : State) (ch : Channel) (p : ProbeType) :
    (s.cacheProbe ch p).tcMask = s.tcMask := rfl
@[simp] theorem State.cacheProbe_tcOffset (s : State) (ch : Channel) (p : ProbeType) :
    (s.cacheProbe ch p).tcOffset = s.tcOffset := rfl
@[simp] theorem State.cacheProbe_tcLastFault (s : State) (ch : Channel) (p : ProbeType) :
    (s.cacheProbe ch p).tcLastFault = s.tcLastFault := rfl
@[simp] theorem State.cacheProbe_csRtd (s : State) (ch : Channel) (p : ProbeType) :
    (s.cacheProbe ch p).csRtd = s.csRtd := rfl
@[simp] theorem State.cacheProbe_csTc (s : State) (ch : Channel) (p : ProbeType) :
    (s.cacheProbe ch p).csTc = s.csTc := rfl
@[simp] theorem State.cacheProbe_sclk (s : State) (ch : Channel) (p : ProbeType) :
    (s.cacheProbe ch p).sclk = s.sclk := rfl
@[simp] theorem State.cacheProbe_mosi (s : State) (ch : Channel) (p : ProbeType) :
    (s.cacheProbe ch p).mosi = s.mosi := rfl
@[simp] theorem State.cacheProbe_now (s : State) (ch : Channel) (p : ProbeType) :
    (s.cacheProbe ch p).now = s.now := rfl
@[simp] theorem State.cacheProbe_reverse (s : State) (ch : Channel) (p : ProbeType) :
    (s.cacheProbe ch p).reverse = s.reverse := rfl
@[simp] theorem State.cacheProbe_rst (s : State) (ch : Channel) (p : ProbeType) :
    (s.cacheProbe ch p).rst = s.rst := rfl
@[simp] theorem State.cacheProbe_trace (s : State) (ch : Channel) (p : ProbeType) :
    (s.cacheProbe ch p).trace = s.trace := rfl
@[simp] theorem State.cacheProbe_turns (s : State) (ch : Channel) (p : ProbeType) :
    (s.cacheProbe ch p).turns = s.turns := rfl
@[simp] theorem State.cacheProbe_misoIn (s : State) (ch : Channel) (p : ProbeType) :
    (s.cacheProbe ch p).misoIn = s.misoIn := rfl
@[simp] theorem State.cacheProbe_freeCount (s : State) (ch : Channel) (p : ProbeType) :
    (s.cacheProbe ch p).freeCount = s.freeCount := rfl
@[simp] theorem State.cacheProbe_hostData (s : State) (ch : Channel) (p : ProbeType) :
    (s.cacheProbe ch p).hostData = s.hostData := rfl

/-! ### `setRoute`: the route (43_channel_mux.md R106) -/

@[simp] theorem State.setRoute_params (s : State) (fam : Family) : (s.setRoute fam).params = s.params := rfl
@[simp] theorem State.setRoute_cmd (s : State) (fam : Family) : (s.setRoute fam).cmd = s.cmd := rfl
@[simp] theorem State.setRoute_status (s : State) (fam : Family) : (s.setRoute fam).status = s.status := rfl
@[simp] theorem State.setRoute_arg0 (s : State) (fam : Family) : (s.setRoute fam).arg0 = s.arg0 := rfl
@[simp] theorem State.setRoute_arg1 (s : State) (fam : Family) : (s.setRoute fam).arg1 = s.arg1 := rfl
@[simp] theorem State.setRoute_arg2 (s : State) (fam : Family) : (s.setRoute fam).arg2 = s.arg2 := rfl
@[simp] theorem State.setRoute_result (s : State) (fam : Family) : (s.setRoute fam).result = s.result := rfl
@[simp] theorem State.setRoute_seq (s : State) (fam : Family) : (s.setRoute fam).seq = s.seq := rfl
@[simp] theorem State.setRoute_latch (s : State) (fam : Family) : (s.setRoute fam).latch = s.latch := rfl
@[simp] theorem State.setRoute_tcActive (s : State) (fam : Family) : (s.setRoute fam).tcActive = s.tcActive := rfl
@[simp] theorem State.setRoute_rtdActive (s : State) (fam : Family) : (s.setRoute fam).rtdActive = s.rtdActive := rfl
@[simp] theorem State.setRoute_outCfg (s : State) (fam : Family) : (s.setRoute fam).outCfg = s.outCfg := rfl
@[simp] theorem State.setRoute_curChannel (s : State) (fam : Family) :
    (s.setRoute fam).curChannel = s.curChannel := rfl
@[simp] theorem State.setRoute_cache (s : State) (fam : Family) : (s.setRoute fam).cache = s.cache := rfl
@[simp] theorem State.setRoute_sel (s : State) (fam : Family) : (s.setRoute fam).sel = s.sel := rfl
@[simp] theorem State.setRoute_route (s : State) (fam : Family) :
    (s.setRoute fam).route = s.params.routeLevel fam := rfl
@[simp] theorem State.setRoute_muxState (s : State) (fam : Family) : (s.setRoute fam).muxState = s.muxState := rfl
@[simp] theorem State.setRoute_muxTs (s : State) (fam : Family) : (s.setRoute fam).muxTs = s.muxTs := rfl
@[simp] theorem State.setRoute_cfg (s : State) (fam : Family) : (s.setRoute fam).cfg = s.cfg := rfl
@[simp] theorem State.setRoute_rtdProbe (s : State) (fam : Family) : (s.setRoute fam).rtdProbe = s.rtdProbe := rfl
@[simp] theorem State.setRoute_rtdState (s : State) (fam : Family) : (s.setRoute fam).rtdState = s.rtdState := rfl
@[simp] theorem State.setRoute_rtdTs (s : State) (fam : Family) : (s.setRoute fam).rtdTs = s.rtdTs := rfl
@[simp] theorem State.setRoute_rtdAsyncBiasWasOn (s : State) (fam : Family) :
    (s.setRoute fam).rtdAsyncBiasWasOn = s.rtdAsyncBiasWasOn := rfl
@[simp] theorem State.setRoute_tcProbe (s : State) (fam : Family) : (s.setRoute fam).tcProbe = s.tcProbe := rfl
@[simp] theorem State.setRoute_tcMask (s : State) (fam : Family) : (s.setRoute fam).tcMask = s.tcMask := rfl
@[simp] theorem State.setRoute_tcOffset (s : State) (fam : Family) : (s.setRoute fam).tcOffset = s.tcOffset := rfl
@[simp] theorem State.setRoute_tcLastFault (s : State) (fam : Family) :
    (s.setRoute fam).tcLastFault = s.tcLastFault := rfl
@[simp] theorem State.setRoute_csRtd (s : State) (fam : Family) : (s.setRoute fam).csRtd = s.csRtd := rfl
@[simp] theorem State.setRoute_csTc (s : State) (fam : Family) : (s.setRoute fam).csTc = s.csTc := rfl
@[simp] theorem State.setRoute_sclk (s : State) (fam : Family) : (s.setRoute fam).sclk = s.sclk := rfl
@[simp] theorem State.setRoute_mosi (s : State) (fam : Family) : (s.setRoute fam).mosi = s.mosi := rfl
@[simp] theorem State.setRoute_now (s : State) (fam : Family) : (s.setRoute fam).now = s.now := rfl
@[simp] theorem State.setRoute_reverse (s : State) (fam : Family) : (s.setRoute fam).reverse = s.reverse := rfl
@[simp] theorem State.setRoute_rst (s : State) (fam : Family) : (s.setRoute fam).rst = s.rst := rfl
@[simp] theorem State.setRoute_trace (s : State) (fam : Family) :
    (s.setRoute fam).trace = s.trace ++ [.pin .route (levelOf (s.outCfg && s.params.routeLevel fam))] := rfl
@[simp] theorem State.setRoute_turns (s : State) (fam : Family) : (s.setRoute fam).turns = s.turns := rfl
@[simp] theorem State.setRoute_misoIn (s : State) (fam : Family) : (s.setRoute fam).misoIn = s.misoIn := rfl
@[simp] theorem State.setRoute_freeCount (s : State) (fam : Family) : (s.setRoute fam).freeCount = s.freeCount := rfl
@[simp] theorem State.setRoute_hostData (s : State) (fam : Family) : (s.setRoute fam).hostData = s.hostData := rfl

/-! ### `selectLines`: the select lines (R106, R109) -/

@[simp] theorem State.selectLines_params (s : State) (ch : Channel) (rev : Bool) :
    (s.selectLines ch rev).params = s.params := rfl
@[simp] theorem State.selectLines_cmd (s : State) (ch : Channel) (rev : Bool) :
    (s.selectLines ch rev).cmd = s.cmd := rfl
@[simp] theorem State.selectLines_status (s : State) (ch : Channel) (rev : Bool) :
    (s.selectLines ch rev).status = s.status := rfl
@[simp] theorem State.selectLines_arg0 (s : State) (ch : Channel) (rev : Bool) :
    (s.selectLines ch rev).arg0 = s.arg0 := rfl
@[simp] theorem State.selectLines_arg1 (s : State) (ch : Channel) (rev : Bool) :
    (s.selectLines ch rev).arg1 = s.arg1 := rfl
@[simp] theorem State.selectLines_arg2 (s : State) (ch : Channel) (rev : Bool) :
    (s.selectLines ch rev).arg2 = s.arg2 := rfl
@[simp] theorem State.selectLines_result (s : State) (ch : Channel) (rev : Bool) :
    (s.selectLines ch rev).result = s.result := rfl
@[simp] theorem State.selectLines_seq (s : State) (ch : Channel) (rev : Bool) :
    (s.selectLines ch rev).seq = s.seq := rfl
@[simp] theorem State.selectLines_latch (s : State) (ch : Channel) (rev : Bool) :
    (s.selectLines ch rev).latch = s.latch := rfl
@[simp] theorem State.selectLines_tcActive (s : State) (ch : Channel) (rev : Bool) :
    (s.selectLines ch rev).tcActive = s.tcActive := rfl
@[simp] theorem State.selectLines_rtdActive (s : State) (ch : Channel) (rev : Bool) :
    (s.selectLines ch rev).rtdActive = s.rtdActive := rfl
@[simp] theorem State.selectLines_outCfg (s : State) (ch : Channel) (rev : Bool) :
    (s.selectLines ch rev).outCfg = s.outCfg := rfl
@[simp] theorem State.selectLines_curChannel (s : State) (ch : Channel) (rev : Bool) :
    (s.selectLines ch rev).curChannel = some ch := rfl
@[simp] theorem State.selectLines_cache (s : State) (ch : Channel) (rev : Bool) :
    (s.selectLines ch rev).cache = s.cache := rfl
@[simp] theorem State.selectLines_sel (s : State) (ch : Channel) (rev : Bool) :
    (s.selectLines ch rev).sel = oneHot (physOf ch rev) := rfl
@[simp] theorem State.selectLines_route (s : State) (ch : Channel) (rev : Bool) :
    (s.selectLines ch rev).route = s.route := rfl
@[simp] theorem State.selectLines_cfg (s : State) (ch : Channel) (rev : Bool) :
    (s.selectLines ch rev).cfg = s.cfg := rfl
@[simp] theorem State.selectLines_rtdProbe (s : State) (ch : Channel) (rev : Bool) :
    (s.selectLines ch rev).rtdProbe = s.rtdProbe := rfl
@[simp] theorem State.selectLines_rtdState (s : State) (ch : Channel) (rev : Bool) :
    (s.selectLines ch rev).rtdState = s.rtdState := rfl
@[simp] theorem State.selectLines_rtdTs (s : State) (ch : Channel) (rev : Bool) :
    (s.selectLines ch rev).rtdTs = s.rtdTs := rfl
@[simp] theorem State.selectLines_rtdAsyncBiasWasOn (s : State) (ch : Channel) (rev : Bool) :
    (s.selectLines ch rev).rtdAsyncBiasWasOn = s.rtdAsyncBiasWasOn := rfl
@[simp] theorem State.selectLines_tcProbe (s : State) (ch : Channel) (rev : Bool) :
    (s.selectLines ch rev).tcProbe = s.tcProbe := rfl
@[simp] theorem State.selectLines_tcMask (s : State) (ch : Channel) (rev : Bool) :
    (s.selectLines ch rev).tcMask = s.tcMask := rfl
@[simp] theorem State.selectLines_tcOffset (s : State) (ch : Channel) (rev : Bool) :
    (s.selectLines ch rev).tcOffset = s.tcOffset := rfl
@[simp] theorem State.selectLines_tcLastFault (s : State) (ch : Channel) (rev : Bool) :
    (s.selectLines ch rev).tcLastFault = s.tcLastFault := rfl
@[simp] theorem State.selectLines_csRtd (s : State) (ch : Channel) (rev : Bool) :
    (s.selectLines ch rev).csRtd = s.csRtd := rfl
@[simp] theorem State.selectLines_csTc (s : State) (ch : Channel) (rev : Bool) :
    (s.selectLines ch rev).csTc = s.csTc := rfl
@[simp] theorem State.selectLines_sclk (s : State) (ch : Channel) (rev : Bool) :
    (s.selectLines ch rev).sclk = s.sclk := rfl
@[simp] theorem State.selectLines_mosi (s : State) (ch : Channel) (rev : Bool) :
    (s.selectLines ch rev).mosi = s.mosi := rfl
@[simp] theorem State.selectLines_now (s : State) (ch : Channel) (rev : Bool) :
    (s.selectLines ch rev).now = s.now := rfl
@[simp] theorem State.selectLines_reverse (s : State) (ch : Channel) (rev : Bool) :
    (s.selectLines ch rev).reverse = s.reverse := rfl
@[simp] theorem State.selectLines_rst (s : State) (ch : Channel) (rev : Bool) :
    (s.selectLines ch rev).rst = s.rst := rfl
@[simp] theorem State.selectLines_turns (s : State) (ch : Channel) (rev : Bool) :
    (s.selectLines ch rev).turns = s.turns := rfl
@[simp] theorem State.selectLines_misoIn (s : State) (ch : Channel) (rev : Bool) :
    (s.selectLines ch rev).misoIn = s.misoIn := rfl
@[simp] theorem State.selectLines_freeCount (s : State) (ch : Channel) (rev : Bool) :
    (s.selectLines ch rev).freeCount = s.freeCount := rfl
@[simp] theorem State.selectLines_hostData (s : State) (ch : Channel) (rev : Bool) :
    (s.selectLines ch rev).hostData = s.hostData := rfl

/-! ### `clearMux`: the multiplexer at acquire and release (44_lifecycle.md R111, R112) -/

@[simp] theorem State.clearMux_params (s : State) (b : Bool) : (s.clearMux b).params = s.params := rfl
@[simp] theorem State.clearMux_cmd (s : State) (b : Bool) : (s.clearMux b).cmd = s.cmd := rfl
@[simp] theorem State.clearMux_status (s : State) (b : Bool) : (s.clearMux b).status = s.status := rfl
@[simp] theorem State.clearMux_arg0 (s : State) (b : Bool) : (s.clearMux b).arg0 = s.arg0 := rfl
@[simp] theorem State.clearMux_arg1 (s : State) (b : Bool) : (s.clearMux b).arg1 = s.arg1 := rfl
@[simp] theorem State.clearMux_arg2 (s : State) (b : Bool) : (s.clearMux b).arg2 = s.arg2 := rfl
@[simp] theorem State.clearMux_result (s : State) (b : Bool) : (s.clearMux b).result = s.result := rfl
@[simp] theorem State.clearMux_seq (s : State) (b : Bool) : (s.clearMux b).seq = s.seq := rfl
@[simp] theorem State.clearMux_latch (s : State) (b : Bool) : (s.clearMux b).latch = s.latch := rfl
@[simp] theorem State.clearMux_tcActive (s : State) (b : Bool) : (s.clearMux b).tcActive = s.tcActive := rfl
@[simp] theorem State.clearMux_rtdActive (s : State) (b : Bool) : (s.clearMux b).rtdActive = s.rtdActive := rfl
@[simp] theorem State.clearMux_outCfg (s : State) (b : Bool) : (s.clearMux b).outCfg = b := rfl
@[simp] theorem State.clearMux_curChannel (s : State) (b : Bool) : (s.clearMux b).curChannel = none := rfl
@[simp] theorem State.clearMux_cache (s : State) (b : Bool) :
    (s.clearMux b).cache = { ch0 := .none, ch1 := .none, ch2 := .none } := rfl
@[simp] theorem State.clearMux_sel (s : State) (b : Bool) : (s.clearMux b).sel = 0#3 := rfl
@[simp] theorem State.clearMux_route (s : State) (b : Bool) : (s.clearMux b).route = false := rfl
@[simp] theorem State.clearMux_muxState (s : State) (b : Bool) : (s.clearMux b).muxState = .selected := rfl
@[simp] theorem State.clearMux_muxTs (s : State) (b : Bool) : (s.clearMux b).muxTs = 0#32 := rfl
@[simp] theorem State.clearMux_cfg (s : State) (b : Bool) : (s.clearMux b).cfg = s.cfg := rfl
@[simp] theorem State.clearMux_rtdProbe (s : State) (b : Bool) : (s.clearMux b).rtdProbe = s.rtdProbe := rfl
@[simp] theorem State.clearMux_rtdState (s : State) (b : Bool) : (s.clearMux b).rtdState = s.rtdState := rfl
@[simp] theorem State.clearMux_rtdTs (s : State) (b : Bool) : (s.clearMux b).rtdTs = s.rtdTs := rfl
@[simp] theorem State.clearMux_rtdAsyncBiasWasOn (s : State) (b : Bool) :
    (s.clearMux b).rtdAsyncBiasWasOn = s.rtdAsyncBiasWasOn := rfl
@[simp] theorem State.clearMux_tcProbe (s : State) (b : Bool) : (s.clearMux b).tcProbe = s.tcProbe := rfl
@[simp] theorem State.clearMux_tcMask (s : State) (b : Bool) : (s.clearMux b).tcMask = s.tcMask := rfl
@[simp] theorem State.clearMux_tcOffset (s : State) (b : Bool) : (s.clearMux b).tcOffset = s.tcOffset := rfl
@[simp] theorem State.clearMux_tcLastFault (s : State) (b : Bool) : (s.clearMux b).tcLastFault = s.tcLastFault := rfl
@[simp] theorem State.clearMux_csRtd (s : State) (b : Bool) : (s.clearMux b).csRtd = s.csRtd := rfl
@[simp] theorem State.clearMux_csTc (s : State) (b : Bool) : (s.clearMux b).csTc = s.csTc := rfl
@[simp] theorem State.clearMux_sclk (s : State) (b : Bool) : (s.clearMux b).sclk = s.sclk := rfl
@[simp] theorem State.clearMux_mosi (s : State) (b : Bool) : (s.clearMux b).mosi = s.mosi := rfl
@[simp] theorem State.clearMux_now (s : State) (b : Bool) : (s.clearMux b).now = s.now := rfl
@[simp] theorem State.clearMux_reverse (s : State) (b : Bool) : (s.clearMux b).reverse = s.reverse := rfl
@[simp] theorem State.clearMux_rst (s : State) (b : Bool) : (s.clearMux b).rst = s.rst := rfl
@[simp] theorem State.clearMux_trace (s : State) (b : Bool) :
    (s.clearMux b).trace = s.trace ++ [.pin .sel0 .low, .pin .sel1 .low, .pin .sel2 .low, .pin .route .low] := rfl
@[simp] theorem State.clearMux_turns (s : State) (b : Bool) : (s.clearMux b).turns = s.turns := rfl
@[simp] theorem State.clearMux_misoIn (s : State) (b : Bool) : (s.clearMux b).misoIn = s.misoIn := rfl
@[simp] theorem State.clearMux_freeCount (s : State) (b : Bool) : (s.clearMux b).freeCount = s.freeCount := rfl
@[simp] theorem State.clearMux_hostData (s : State) (b : Bool) : (s.clearMux b).hostData = s.hostData := rfl

/-! ### `accept`: acceptance (00_scope.md R12) -/

@[simp] theorem State.accept_params (s : State) (w : Word) : (s.accept w).params = s.params := rfl
@[simp] theorem State.accept_cmd (s : State) (w : Word) : (s.accept w).cmd = w := rfl
@[simp] theorem State.accept_status (s : State) (w : Word) : (s.accept w).status = s.status.accept := rfl
@[simp] theorem State.accept_arg0 (s : State) (w : Word) : (s.accept w).arg0 = s.arg0 := rfl
@[simp] theorem State.accept_arg1 (s : State) (w : Word) : (s.accept w).arg1 = s.arg1 := rfl
@[simp] theorem State.accept_arg2 (s : State) (w : Word) : (s.accept w).arg2 = s.arg2 := rfl
@[simp] theorem State.accept_result (s : State) (w : Word) : (s.accept w).result = s.result := rfl
@[simp] theorem State.accept_seq (s : State) (w : Word) : (s.accept w).seq = .start := rfl
@[simp] theorem State.accept_latch (s : State) (w : Word) :
    (s.accept w).latch = { cmd := w, arg0 := s.arg0, arg1 := s.arg1, arg2 := s.arg2 } := rfl
@[simp] theorem State.accept_tcActive (s : State) (w : Word) : (s.accept w).tcActive = s.tcActive := rfl
@[simp] theorem State.accept_rtdActive (s : State) (w : Word) : (s.accept w).rtdActive = s.rtdActive := rfl
@[simp] theorem State.accept_outCfg (s : State) (w : Word) : (s.accept w).outCfg = s.outCfg := rfl
@[simp] theorem State.accept_curChannel (s : State) (w : Word) : (s.accept w).curChannel = s.curChannel := rfl
@[simp] theorem State.accept_cache (s : State) (w : Word) : (s.accept w).cache = s.cache := rfl
@[simp] theorem State.accept_sel (s : State) (w : Word) : (s.accept w).sel = s.sel := rfl
@[simp] theorem State.accept_route (s : State) (w : Word) : (s.accept w).route = s.route := rfl
@[simp] theorem State.accept_muxState (s : State) (w : Word) : (s.accept w).muxState = s.muxState := rfl
@[simp] theorem State.accept_muxTs (s : State) (w : Word) : (s.accept w).muxTs = s.muxTs := rfl
@[simp] theorem State.accept_cfg (s : State) (w : Word) : (s.accept w).cfg = s.cfg := rfl
@[simp] theorem State.accept_rtdProbe (s : State) (w : Word) : (s.accept w).rtdProbe = s.rtdProbe := rfl
@[simp] theorem State.accept_rtdState (s : State) (w : Word) : (s.accept w).rtdState = s.rtdState := rfl
@[simp] theorem State.accept_rtdTs (s : State) (w : Word) : (s.accept w).rtdTs = s.rtdTs := rfl
@[simp] theorem State.accept_rtdAsyncBiasWasOn (s : State) (w : Word) :
    (s.accept w).rtdAsyncBiasWasOn = s.rtdAsyncBiasWasOn := rfl
@[simp] theorem State.accept_tcProbe (s : State) (w : Word) : (s.accept w).tcProbe = s.tcProbe := rfl
@[simp] theorem State.accept_tcMask (s : State) (w : Word) : (s.accept w).tcMask = s.tcMask := rfl
@[simp] theorem State.accept_tcOffset (s : State) (w : Word) : (s.accept w).tcOffset = s.tcOffset := rfl
@[simp] theorem State.accept_tcLastFault (s : State) (w : Word) : (s.accept w).tcLastFault = s.tcLastFault := rfl
@[simp] theorem State.accept_csRtd (s : State) (w : Word) : (s.accept w).csRtd = s.csRtd := rfl
@[simp] theorem State.accept_csTc (s : State) (w : Word) : (s.accept w).csTc = s.csTc := rfl
@[simp] theorem State.accept_sclk (s : State) (w : Word) : (s.accept w).sclk = s.sclk := rfl
@[simp] theorem State.accept_mosi (s : State) (w : Word) : (s.accept w).mosi = s.mosi := rfl
@[simp] theorem State.accept_now (s : State) (w : Word) : (s.accept w).now = s.now := rfl
@[simp] theorem State.accept_reverse (s : State) (w : Word) : (s.accept w).reverse = s.reverse := rfl
@[simp] theorem State.accept_rst (s : State) (w : Word) : (s.accept w).rst = s.rst := rfl
@[simp] theorem State.accept_trace (s : State) (w : Word) : (s.accept w).trace = s.trace := rfl
@[simp] theorem State.accept_turns (s : State) (w : Word) : (s.accept w).turns = s.turns := rfl
@[simp] theorem State.accept_misoIn (s : State) (w : Word) : (s.accept w).misoIn = s.misoIn := rfl
@[simp] theorem State.accept_freeCount (s : State) (w : Word) : (s.accept w).freeCount = s.freeCount := rfl
@[simp] theorem State.accept_hostData (s : State) (w : Word) : (s.accept w).hostData = s.hostData := rfl

/-! ### `clockTick`: a clock step (10_state.md R30) -/

@[simp] theorem State.clockTick_params (s : State) : (s.clockTick).params = s.params := rfl
@[simp] theorem State.clockTick_cmd (s : State) : (s.clockTick).cmd = s.cmd := rfl
@[simp] theorem State.clockTick_status (s : State) : (s.clockTick).status = s.status := rfl
@[simp] theorem State.clockTick_arg0 (s : State) : (s.clockTick).arg0 = s.arg0 := rfl
@[simp] theorem State.clockTick_arg1 (s : State) : (s.clockTick).arg1 = s.arg1 := rfl
@[simp] theorem State.clockTick_arg2 (s : State) : (s.clockTick).arg2 = s.arg2 := rfl
@[simp] theorem State.clockTick_result (s : State) : (s.clockTick).result = s.result := rfl
@[simp] theorem State.clockTick_seq (s : State) : (s.clockTick).seq = s.seq := rfl
@[simp] theorem State.clockTick_latch (s : State) : (s.clockTick).latch = s.latch := rfl
@[simp] theorem State.clockTick_tcActive (s : State) : (s.clockTick).tcActive = s.tcActive := rfl
@[simp] theorem State.clockTick_rtdActive (s : State) : (s.clockTick).rtdActive = s.rtdActive := rfl
@[simp] theorem State.clockTick_outCfg (s : State) : (s.clockTick).outCfg = s.outCfg := rfl
@[simp] theorem State.clockTick_curChannel (s : State) : (s.clockTick).curChannel = s.curChannel := rfl
@[simp] theorem State.clockTick_cache (s : State) : (s.clockTick).cache = s.cache := rfl
@[simp] theorem State.clockTick_sel (s : State) : (s.clockTick).sel = s.sel := rfl
@[simp] theorem State.clockTick_route (s : State) : (s.clockTick).route = s.route := rfl
@[simp] theorem State.clockTick_muxState (s : State) : (s.clockTick).muxState = s.muxState := rfl
@[simp] theorem State.clockTick_muxTs (s : State) : (s.clockTick).muxTs = s.muxTs := rfl
@[simp] theorem State.clockTick_cfg (s : State) : (s.clockTick).cfg = s.cfg := rfl
@[simp] theorem State.clockTick_rtdProbe (s : State) : (s.clockTick).rtdProbe = s.rtdProbe := rfl
@[simp] theorem State.clockTick_rtdState (s : State) : (s.clockTick).rtdState = s.rtdState := rfl
@[simp] theorem State.clockTick_rtdTs (s : State) : (s.clockTick).rtdTs = s.rtdTs := rfl
@[simp] theorem State.clockTick_rtdAsyncBiasWasOn (s : State) :
    (s.clockTick).rtdAsyncBiasWasOn = s.rtdAsyncBiasWasOn := rfl
@[simp] theorem State.clockTick_tcProbe (s : State) : (s.clockTick).tcProbe = s.tcProbe := rfl
@[simp] theorem State.clockTick_tcMask (s : State) : (s.clockTick).tcMask = s.tcMask := rfl
@[simp] theorem State.clockTick_tcOffset (s : State) : (s.clockTick).tcOffset = s.tcOffset := rfl
@[simp] theorem State.clockTick_tcLastFault (s : State) : (s.clockTick).tcLastFault = s.tcLastFault := rfl
@[simp] theorem State.clockTick_csRtd (s : State) : (s.clockTick).csRtd = s.csRtd := rfl
@[simp] theorem State.clockTick_csTc (s : State) : (s.clockTick).csTc = s.csTc := rfl
@[simp] theorem State.clockTick_sclk (s : State) : (s.clockTick).sclk = s.sclk := rfl
@[simp] theorem State.clockTick_mosi (s : State) : (s.clockTick).mosi = s.mosi := rfl
@[simp] theorem State.clockTick_now (s : State) :
    (s.clockTick).now = BitVec.ofNat 32 ((s.now.toNat + 1) % 2 ^ s.params.tw) := rfl
@[simp] theorem State.clockTick_reverse (s : State) : (s.clockTick).reverse = s.reverse := rfl
@[simp] theorem State.clockTick_rst (s : State) : (s.clockTick).rst = s.rst := rfl
@[simp] theorem State.clockTick_trace (s : State) : (s.clockTick).trace = s.trace := rfl
@[simp] theorem State.clockTick_turns (s : State) : (s.clockTick).turns = s.turns := rfl
@[simp] theorem State.clockTick_misoIn (s : State) : (s.clockTick).misoIn = s.misoIn := rfl
@[simp] theorem State.clockTick_freeCount (s : State) : (s.clockTick).freeCount = s.freeCount := rfl
@[simp] theorem State.clockTick_hostData (s : State) : (s.clockTick).hostData = s.hostData := rfl

/-! ### `setReverse`: a board step (R29) -/

@[simp] theorem State.setReverse_params (s : State) (level : Bool) : (s.setReverse level).params = s.params := rfl
@[simp] theorem State.setReverse_cmd (s : State) (level : Bool) : (s.setReverse level).cmd = s.cmd := rfl
@[simp] theorem State.setReverse_status (s : State) (level : Bool) : (s.setReverse level).status = s.status := rfl
@[simp] theorem State.setReverse_arg0 (s : State) (level : Bool) : (s.setReverse level).arg0 = s.arg0 := rfl
@[simp] theorem State.setReverse_arg1 (s : State) (level : Bool) : (s.setReverse level).arg1 = s.arg1 := rfl
@[simp] theorem State.setReverse_arg2 (s : State) (level : Bool) : (s.setReverse level).arg2 = s.arg2 := rfl
@[simp] theorem State.setReverse_result (s : State) (level : Bool) : (s.setReverse level).result = s.result := rfl
@[simp] theorem State.setReverse_seq (s : State) (level : Bool) : (s.setReverse level).seq = s.seq := rfl
@[simp] theorem State.setReverse_latch (s : State) (level : Bool) : (s.setReverse level).latch = s.latch := rfl
@[simp] theorem State.setReverse_tcActive (s : State) (level : Bool) :
    (s.setReverse level).tcActive = s.tcActive := rfl
@[simp] theorem State.setReverse_rtdActive (s : State) (level : Bool) :
    (s.setReverse level).rtdActive = s.rtdActive := rfl
@[simp] theorem State.setReverse_outCfg (s : State) (level : Bool) : (s.setReverse level).outCfg = s.outCfg := rfl
@[simp] theorem State.setReverse_curChannel (s : State) (level : Bool) :
    (s.setReverse level).curChannel = s.curChannel := rfl
@[simp] theorem State.setReverse_cache (s : State) (level : Bool) : (s.setReverse level).cache = s.cache := rfl
@[simp] theorem State.setReverse_sel (s : State) (level : Bool) : (s.setReverse level).sel = s.sel := rfl
@[simp] theorem State.setReverse_route (s : State) (level : Bool) : (s.setReverse level).route = s.route := rfl
@[simp] theorem State.setReverse_muxState (s : State) (level : Bool) :
    (s.setReverse level).muxState = s.muxState := rfl
@[simp] theorem State.setReverse_muxTs (s : State) (level : Bool) : (s.setReverse level).muxTs = s.muxTs := rfl
@[simp] theorem State.setReverse_cfg (s : State) (level : Bool) : (s.setReverse level).cfg = s.cfg := rfl
@[simp] theorem State.setReverse_rtdProbe (s : State) (level : Bool) :
    (s.setReverse level).rtdProbe = s.rtdProbe := rfl
@[simp] theorem State.setReverse_rtdState (s : State) (level : Bool) :
    (s.setReverse level).rtdState = s.rtdState := rfl
@[simp] theorem State.setReverse_rtdTs (s : State) (level : Bool) : (s.setReverse level).rtdTs = s.rtdTs := rfl
@[simp] theorem State.setReverse_rtdAsyncBiasWasOn (s : State) (level : Bool) :
    (s.setReverse level).rtdAsyncBiasWasOn = s.rtdAsyncBiasWasOn := rfl
@[simp] theorem State.setReverse_tcProbe (s : State) (level : Bool) : (s.setReverse level).tcProbe = s.tcProbe := rfl
@[simp] theorem State.setReverse_tcMask (s : State) (level : Bool) : (s.setReverse level).tcMask = s.tcMask := rfl
@[simp] theorem State.setReverse_tcOffset (s : State) (level : Bool) :
    (s.setReverse level).tcOffset = s.tcOffset := rfl
@[simp] theorem State.setReverse_tcLastFault (s : State) (level : Bool) :
    (s.setReverse level).tcLastFault = s.tcLastFault := rfl
@[simp] theorem State.setReverse_csRtd (s : State) (level : Bool) : (s.setReverse level).csRtd = s.csRtd := rfl
@[simp] theorem State.setReverse_csTc (s : State) (level : Bool) : (s.setReverse level).csTc = s.csTc := rfl
@[simp] theorem State.setReverse_sclk (s : State) (level : Bool) : (s.setReverse level).sclk = s.sclk := rfl
@[simp] theorem State.setReverse_mosi (s : State) (level : Bool) : (s.setReverse level).mosi = s.mosi := rfl
@[simp] theorem State.setReverse_now (s : State) (level : Bool) : (s.setReverse level).now = s.now := rfl
@[simp] theorem State.setReverse_reverse (s : State) (level : Bool) : (s.setReverse level).reverse = level := rfl
@[simp] theorem State.setReverse_rst (s : State) (level : Bool) : (s.setReverse level).rst = s.rst := rfl
@[simp] theorem State.setReverse_trace (s : State) (level : Bool) : (s.setReverse level).trace = s.trace := rfl
@[simp] theorem State.setReverse_turns (s : State) (level : Bool) : (s.setReverse level).turns = s.turns := rfl
@[simp] theorem State.setReverse_misoIn (s : State) (level : Bool) : (s.setReverse level).misoIn = s.misoIn := rfl
@[simp] theorem State.setReverse_freeCount (s : State) (level : Bool) :
    (s.setReverse level).freeCount = s.freeCount := rfl
@[simp] theorem State.setReverse_hostData (s : State) (level : Bool) :
    (s.setReverse level).hostData = s.hostData := rfl

/-! ### `faultMirror`: the mirror after a fault cycle (41_rtd_engine.md R81) -/

@[simp] theorem State.faultMirror_params (s : State) (trig : Byte) : (s.faultMirror trig).params = s.params := rfl
@[simp] theorem State.faultMirror_cmd (s : State) (trig : Byte) : (s.faultMirror trig).cmd = s.cmd := rfl
@[simp] theorem State.faultMirror_status (s : State) (trig : Byte) : (s.faultMirror trig).status = s.status := rfl
@[simp] theorem State.faultMirror_arg0 (s : State) (trig : Byte) : (s.faultMirror trig).arg0 = s.arg0 := rfl
@[simp] theorem State.faultMirror_arg1 (s : State) (trig : Byte) : (s.faultMirror trig).arg1 = s.arg1 := rfl
@[simp] theorem State.faultMirror_arg2 (s : State) (trig : Byte) : (s.faultMirror trig).arg2 = s.arg2 := rfl
@[simp] theorem State.faultMirror_result (s : State) (trig : Byte) : (s.faultMirror trig).result = s.result := rfl
@[simp] theorem State.faultMirror_seq (s : State) (trig : Byte) : (s.faultMirror trig).seq = s.seq := rfl
@[simp] theorem State.faultMirror_latch (s : State) (trig : Byte) : (s.faultMirror trig).latch = s.latch := rfl
@[simp] theorem State.faultMirror_tcActive (s : State) (trig : Byte) :
    (s.faultMirror trig).tcActive = s.tcActive := rfl
@[simp] theorem State.faultMirror_rtdActive (s : State) (trig : Byte) :
    (s.faultMirror trig).rtdActive = s.rtdActive := rfl
@[simp] theorem State.faultMirror_outCfg (s : State) (trig : Byte) : (s.faultMirror trig).outCfg = s.outCfg := rfl
@[simp] theorem State.faultMirror_curChannel (s : State) (trig : Byte) :
    (s.faultMirror trig).curChannel = s.curChannel := rfl
@[simp] theorem State.faultMirror_cache (s : State) (trig : Byte) : (s.faultMirror trig).cache = s.cache := rfl
@[simp] theorem State.faultMirror_sel (s : State) (trig : Byte) : (s.faultMirror trig).sel = s.sel := rfl
@[simp] theorem State.faultMirror_route (s : State) (trig : Byte) : (s.faultMirror trig).route = s.route := rfl
@[simp] theorem State.faultMirror_muxState (s : State) (trig : Byte) :
    (s.faultMirror trig).muxState = s.muxState := rfl
@[simp] theorem State.faultMirror_muxTs (s : State) (trig : Byte) : (s.faultMirror trig).muxTs = s.muxTs := rfl
@[simp] theorem State.faultMirror_cfg (s : State) (trig : Byte) :
    (s.faultMirror trig).cfg = s.params.faultByte s.cfg trig &&& s.params.cfgPersist := rfl
@[simp] theorem State.faultMirror_rtdProbe (s : State) (trig : Byte) :
    (s.faultMirror trig).rtdProbe = s.rtdProbe := rfl
@[simp] theorem State.faultMirror_rtdState (s : State) (trig : Byte) :
    (s.faultMirror trig).rtdState = s.rtdState := rfl
@[simp] theorem State.faultMirror_rtdTs (s : State) (trig : Byte) : (s.faultMirror trig).rtdTs = s.rtdTs := rfl
@[simp] theorem State.faultMirror_rtdAsyncBiasWasOn (s : State) (trig : Byte) :
    (s.faultMirror trig).rtdAsyncBiasWasOn = s.rtdAsyncBiasWasOn := rfl
@[simp] theorem State.faultMirror_tcProbe (s : State) (trig : Byte) : (s.faultMirror trig).tcProbe = s.tcProbe := rfl
@[simp] theorem State.faultMirror_tcMask (s : State) (trig : Byte) : (s.faultMirror trig).tcMask = s.tcMask := rfl
@[simp] theorem State.faultMirror_tcOffset (s : State) (trig : Byte) :
    (s.faultMirror trig).tcOffset = s.tcOffset := rfl
@[simp] theorem State.faultMirror_tcLastFault (s : State) (trig : Byte) :
    (s.faultMirror trig).tcLastFault = s.tcLastFault := rfl
@[simp] theorem State.faultMirror_csRtd (s : State) (trig : Byte) : (s.faultMirror trig).csRtd = s.csRtd := rfl
@[simp] theorem State.faultMirror_csTc (s : State) (trig : Byte) : (s.faultMirror trig).csTc = s.csTc := rfl
@[simp] theorem State.faultMirror_sclk (s : State) (trig : Byte) : (s.faultMirror trig).sclk = s.sclk := rfl
@[simp] theorem State.faultMirror_mosi (s : State) (trig : Byte) : (s.faultMirror trig).mosi = s.mosi := rfl
@[simp] theorem State.faultMirror_now (s : State) (trig : Byte) : (s.faultMirror trig).now = s.now := rfl
@[simp] theorem State.faultMirror_reverse (s : State) (trig : Byte) : (s.faultMirror trig).reverse = s.reverse := rfl
@[simp] theorem State.faultMirror_rst (s : State) (trig : Byte) : (s.faultMirror trig).rst = s.rst := rfl
@[simp] theorem State.faultMirror_trace (s : State) (trig : Byte) : (s.faultMirror trig).trace = s.trace := rfl
@[simp] theorem State.faultMirror_turns (s : State) (trig : Byte) : (s.faultMirror trig).turns = s.turns := rfl
@[simp] theorem State.faultMirror_misoIn (s : State) (trig : Byte) : (s.faultMirror trig).misoIn = s.misoIn := rfl
@[simp] theorem State.faultMirror_freeCount (s : State) (trig : Byte) :
    (s.faultMirror trig).freeCount = s.freeCount := rfl
@[simp] theorem State.faultMirror_hostData (s : State) (trig : Byte) :
    (s.faultMirror trig).hostData = s.hostData := rfl

/-! ### `rtdSettle`: the non-blocking machine settles (R84) -/

@[simp] theorem State.rtdSettle_params (s : State) : (s.rtdSettle).params = s.params := rfl
@[simp] theorem State.rtdSettle_cmd (s : State) : (s.rtdSettle).cmd = s.cmd := rfl
@[simp] theorem State.rtdSettle_status (s : State) : (s.rtdSettle).status = s.status := rfl
@[simp] theorem State.rtdSettle_arg0 (s : State) : (s.rtdSettle).arg0 = s.arg0 := rfl
@[simp] theorem State.rtdSettle_arg1 (s : State) : (s.rtdSettle).arg1 = s.arg1 := rfl
@[simp] theorem State.rtdSettle_arg2 (s : State) : (s.rtdSettle).arg2 = s.arg2 := rfl
@[simp] theorem State.rtdSettle_result (s : State) : (s.rtdSettle).result = s.result := rfl
@[simp] theorem State.rtdSettle_seq (s : State) : (s.rtdSettle).seq = s.seq := rfl
@[simp] theorem State.rtdSettle_latch (s : State) : (s.rtdSettle).latch = s.latch := rfl
@[simp] theorem State.rtdSettle_tcActive (s : State) : (s.rtdSettle).tcActive = s.tcActive := rfl
@[simp] theorem State.rtdSettle_rtdActive (s : State) : (s.rtdSettle).rtdActive = s.rtdActive := rfl
@[simp] theorem State.rtdSettle_outCfg (s : State) : (s.rtdSettle).outCfg = s.outCfg := rfl
@[simp] theorem State.rtdSettle_curChannel (s : State) : (s.rtdSettle).curChannel = s.curChannel := rfl
@[simp] theorem State.rtdSettle_cache (s : State) : (s.rtdSettle).cache = s.cache := rfl
@[simp] theorem State.rtdSettle_sel (s : State) : (s.rtdSettle).sel = s.sel := rfl
@[simp] theorem State.rtdSettle_route (s : State) : (s.rtdSettle).route = s.route := rfl
@[simp] theorem State.rtdSettle_muxState (s : State) : (s.rtdSettle).muxState = s.muxState := rfl
@[simp] theorem State.rtdSettle_muxTs (s : State) : (s.rtdSettle).muxTs = s.muxTs := rfl
@[simp] theorem State.rtdSettle_cfg (s : State) : (s.rtdSettle).cfg = s.cfg := rfl
@[simp] theorem State.rtdSettle_rtdProbe (s : State) : (s.rtdSettle).rtdProbe = s.rtdProbe := rfl
@[simp] theorem State.rtdSettle_rtdState (s : State) : (s.rtdSettle).rtdState = .settling := rfl
@[simp] theorem State.rtdSettle_rtdTs (s : State) : (s.rtdSettle).rtdTs = s.now := rfl
@[simp] theorem State.rtdSettle_rtdAsyncBiasWasOn (s : State) :
    (s.rtdSettle).rtdAsyncBiasWasOn = s.rtdAsyncBiasWasOn := rfl
@[simp] theorem State.rtdSettle_tcProbe (s : State) : (s.rtdSettle).tcProbe = s.tcProbe := rfl
@[simp] theorem State.rtdSettle_tcMask (s : State) : (s.rtdSettle).tcMask = s.tcMask := rfl
@[simp] theorem State.rtdSettle_tcOffset (s : State) : (s.rtdSettle).tcOffset = s.tcOffset := rfl
@[simp] theorem State.rtdSettle_tcLastFault (s : State) : (s.rtdSettle).tcLastFault = s.tcLastFault := rfl
@[simp] theorem State.rtdSettle_csRtd (s : State) : (s.rtdSettle).csRtd = s.csRtd := rfl
@[simp] theorem State.rtdSettle_csTc (s : State) : (s.rtdSettle).csTc = s.csTc := rfl
@[simp] theorem State.rtdSettle_sclk (s : State) : (s.rtdSettle).sclk = s.sclk := rfl
@[simp] theorem State.rtdSettle_mosi (s : State) : (s.rtdSettle).mosi = s.mosi := rfl
@[simp] theorem State.rtdSettle_now (s : State) : (s.rtdSettle).now = s.now := rfl
@[simp] theorem State.rtdSettle_reverse (s : State) : (s.rtdSettle).reverse = s.reverse := rfl
@[simp] theorem State.rtdSettle_rst (s : State) : (s.rtdSettle).rst = s.rst := rfl
@[simp] theorem State.rtdSettle_trace (s : State) : (s.rtdSettle).trace = s.trace := rfl
@[simp] theorem State.rtdSettle_turns (s : State) : (s.rtdSettle).turns = s.turns := rfl
@[simp] theorem State.rtdSettle_misoIn (s : State) : (s.rtdSettle).misoIn = s.misoIn := rfl
@[simp] theorem State.rtdSettle_freeCount (s : State) : (s.rtdSettle).freeCount = s.freeCount := rfl
@[simp] theorem State.rtdSettle_hostData (s : State) : (s.rtdSettle).hostData = s.hostData := rfl

/-! ### `rtdConvert`: the non-blocking machine converts (R84) -/

@[simp] theorem State.rtdConvert_params (s : State) : (s.rtdConvert).params = s.params := rfl
@[simp] theorem State.rtdConvert_cmd (s : State) : (s.rtdConvert).cmd = s.cmd := rfl
@[simp] theorem State.rtdConvert_status (s : State) : (s.rtdConvert).status = s.status := rfl
@[simp] theorem State.rtdConvert_arg0 (s : State) : (s.rtdConvert).arg0 = s.arg0 := rfl
@[simp] theorem State.rtdConvert_arg1 (s : State) : (s.rtdConvert).arg1 = s.arg1 := rfl
@[simp] theorem State.rtdConvert_arg2 (s : State) : (s.rtdConvert).arg2 = s.arg2 := rfl
@[simp] theorem State.rtdConvert_result (s : State) : (s.rtdConvert).result = s.result := rfl
@[simp] theorem State.rtdConvert_seq (s : State) : (s.rtdConvert).seq = s.seq := rfl
@[simp] theorem State.rtdConvert_latch (s : State) : (s.rtdConvert).latch = s.latch := rfl
@[simp] theorem State.rtdConvert_tcActive (s : State) : (s.rtdConvert).tcActive = s.tcActive := rfl
@[simp] theorem State.rtdConvert_rtdActive (s : State) : (s.rtdConvert).rtdActive = s.rtdActive := rfl
@[simp] theorem State.rtdConvert_outCfg (s : State) : (s.rtdConvert).outCfg = s.outCfg := rfl
@[simp] theorem State.rtdConvert_curChannel (s : State) : (s.rtdConvert).curChannel = s.curChannel := rfl
@[simp] theorem State.rtdConvert_cache (s : State) : (s.rtdConvert).cache = s.cache := rfl
@[simp] theorem State.rtdConvert_sel (s : State) : (s.rtdConvert).sel = s.sel := rfl
@[simp] theorem State.rtdConvert_route (s : State) : (s.rtdConvert).route = s.route := rfl
@[simp] theorem State.rtdConvert_muxState (s : State) : (s.rtdConvert).muxState = s.muxState := rfl
@[simp] theorem State.rtdConvert_muxTs (s : State) : (s.rtdConvert).muxTs = s.muxTs := rfl
@[simp] theorem State.rtdConvert_cfg (s : State) : (s.rtdConvert).cfg = s.cfg := rfl
@[simp] theorem State.rtdConvert_rtdProbe (s : State) : (s.rtdConvert).rtdProbe = s.rtdProbe := rfl
@[simp] theorem State.rtdConvert_rtdState (s : State) : (s.rtdConvert).rtdState = .converting := rfl
@[simp] theorem State.rtdConvert_rtdTs (s : State) : (s.rtdConvert).rtdTs = s.now := rfl
@[simp] theorem State.rtdConvert_rtdAsyncBiasWasOn (s : State) :
    (s.rtdConvert).rtdAsyncBiasWasOn = s.rtdAsyncBiasWasOn := rfl
@[simp] theorem State.rtdConvert_tcProbe (s : State) : (s.rtdConvert).tcProbe = s.tcProbe := rfl
@[simp] theorem State.rtdConvert_tcMask (s : State) : (s.rtdConvert).tcMask = s.tcMask := rfl
@[simp] theorem State.rtdConvert_tcOffset (s : State) : (s.rtdConvert).tcOffset = s.tcOffset := rfl
@[simp] theorem State.rtdConvert_tcLastFault (s : State) : (s.rtdConvert).tcLastFault = s.tcLastFault := rfl
@[simp] theorem State.rtdConvert_csRtd (s : State) : (s.rtdConvert).csRtd = s.csRtd := rfl
@[simp] theorem State.rtdConvert_csTc (s : State) : (s.rtdConvert).csTc = s.csTc := rfl
@[simp] theorem State.rtdConvert_sclk (s : State) : (s.rtdConvert).sclk = s.sclk := rfl
@[simp] theorem State.rtdConvert_mosi (s : State) : (s.rtdConvert).mosi = s.mosi := rfl
@[simp] theorem State.rtdConvert_now (s : State) : (s.rtdConvert).now = s.now := rfl
@[simp] theorem State.rtdConvert_reverse (s : State) : (s.rtdConvert).reverse = s.reverse := rfl
@[simp] theorem State.rtdConvert_rst (s : State) : (s.rtdConvert).rst = s.rst := rfl
@[simp] theorem State.rtdConvert_trace (s : State) : (s.rtdConvert).trace = s.trace := rfl
@[simp] theorem State.rtdConvert_turns (s : State) : (s.rtdConvert).turns = s.turns := rfl
@[simp] theorem State.rtdConvert_misoIn (s : State) : (s.rtdConvert).misoIn = s.misoIn := rfl
@[simp] theorem State.rtdConvert_freeCount (s : State) : (s.rtdConvert).freeCount = s.freeCount := rfl
@[simp] theorem State.rtdConvert_hostData (s : State) : (s.rtdConvert).hostData = s.hostData := rfl

/-! ### `rtdOpened`: the RTD sub-driver is open (44_lifecycle.md R114) -/

@[simp] theorem State.rtdOpened_params (s : State) : (s.rtdOpened).params = s.params := rfl
@[simp] theorem State.rtdOpened_cmd (s : State) : (s.rtdOpened).cmd = s.cmd := rfl
@[simp] theorem State.rtdOpened_status (s : State) : (s.rtdOpened).status = s.status := rfl
@[simp] theorem State.rtdOpened_arg0 (s : State) : (s.rtdOpened).arg0 = s.arg0 := rfl
@[simp] theorem State.rtdOpened_arg1 (s : State) : (s.rtdOpened).arg1 = s.arg1 := rfl
@[simp] theorem State.rtdOpened_arg2 (s : State) : (s.rtdOpened).arg2 = s.arg2 := rfl
@[simp] theorem State.rtdOpened_result (s : State) : (s.rtdOpened).result = s.result := rfl
@[simp] theorem State.rtdOpened_seq (s : State) : (s.rtdOpened).seq = s.seq := rfl
@[simp] theorem State.rtdOpened_latch (s : State) : (s.rtdOpened).latch = s.latch := rfl
@[simp] theorem State.rtdOpened_tcActive (s : State) : (s.rtdOpened).tcActive = s.tcActive := rfl
@[simp] theorem State.rtdOpened_rtdActive (s : State) : (s.rtdOpened).rtdActive = true := rfl
@[simp] theorem State.rtdOpened_outCfg (s : State) : (s.rtdOpened).outCfg = s.outCfg := rfl
@[simp] theorem State.rtdOpened_curChannel (s : State) : (s.rtdOpened).curChannel = s.curChannel := rfl
@[simp] theorem State.rtdOpened_cache (s : State) : (s.rtdOpened).cache = s.cache := rfl
@[simp] theorem State.rtdOpened_sel (s : State) : (s.rtdOpened).sel = s.sel := rfl
@[simp] theorem State.rtdOpened_route (s : State) : (s.rtdOpened).route = s.route := rfl
@[simp] theorem State.rtdOpened_muxState (s : State) : (s.rtdOpened).muxState = s.muxState := rfl
@[simp] theorem State.rtdOpened_muxTs (s : State) : (s.rtdOpened).muxTs = s.muxTs := rfl
@[simp] theorem State.rtdOpened_cfg (s : State) : (s.rtdOpened).cfg = s.cfg := rfl
@[simp] theorem State.rtdOpened_rtdProbe (s : State) : (s.rtdOpened).rtdProbe = s.rtdProbe := rfl
@[simp] theorem State.rtdOpened_rtdState (s : State) : (s.rtdOpened).rtdState = .idle := rfl
@[simp] theorem State.rtdOpened_rtdTs (s : State) : (s.rtdOpened).rtdTs = 0#32 := rfl
@[simp] theorem State.rtdOpened_rtdAsyncBiasWasOn (s : State) : (s.rtdOpened).rtdAsyncBiasWasOn = false := rfl
@[simp] theorem State.rtdOpened_tcProbe (s : State) : (s.rtdOpened).tcProbe = s.tcProbe := rfl
@[simp] theorem State.rtdOpened_tcMask (s : State) : (s.rtdOpened).tcMask = s.tcMask := rfl
@[simp] theorem State.rtdOpened_tcOffset (s : State) : (s.rtdOpened).tcOffset = s.tcOffset := rfl
@[simp] theorem State.rtdOpened_tcLastFault (s : State) : (s.rtdOpened).tcLastFault = s.tcLastFault := rfl
@[simp] theorem State.rtdOpened_csRtd (s : State) : (s.rtdOpened).csRtd = s.csRtd := rfl
@[simp] theorem State.rtdOpened_csTc (s : State) : (s.rtdOpened).csTc = s.csTc := rfl
@[simp] theorem State.rtdOpened_sclk (s : State) : (s.rtdOpened).sclk = s.sclk := rfl
@[simp] theorem State.rtdOpened_mosi (s : State) : (s.rtdOpened).mosi = s.mosi := rfl
@[simp] theorem State.rtdOpened_now (s : State) : (s.rtdOpened).now = s.now := rfl
@[simp] theorem State.rtdOpened_reverse (s : State) : (s.rtdOpened).reverse = s.reverse := rfl
@[simp] theorem State.rtdOpened_rst (s : State) : (s.rtdOpened).rst = s.rst := rfl
@[simp] theorem State.rtdOpened_trace (s : State) : (s.rtdOpened).trace = s.trace := rfl
@[simp] theorem State.rtdOpened_turns (s : State) : (s.rtdOpened).turns = s.turns := rfl
@[simp] theorem State.rtdOpened_misoIn (s : State) : (s.rtdOpened).misoIn = s.misoIn := rfl
@[simp] theorem State.rtdOpened_freeCount (s : State) : (s.rtdOpened).freeCount = s.freeCount := rfl
@[simp] theorem State.rtdOpened_hostData (s : State) : (s.rtdOpened).hostData = s.hostData := rfl

/-! ### `driveCs`: a chip select -/

@[simp] theorem State.driveCs_params (s : State) (chip : Chip) (l : Level) :
    (s.driveCs chip l).params = s.params := by cases chip <;> rfl
@[simp] theorem State.driveCs_cmd (s : State) (chip : Chip) (l : Level) :
    (s.driveCs chip l).cmd = s.cmd := by cases chip <;> rfl
@[simp] theorem State.driveCs_status (s : State) (chip : Chip) (l : Level) :
    (s.driveCs chip l).status = s.status := by cases chip <;> rfl
@[simp] theorem State.driveCs_arg0 (s : State) (chip : Chip) (l : Level) :
    (s.driveCs chip l).arg0 = s.arg0 := by cases chip <;> rfl
@[simp] theorem State.driveCs_arg1 (s : State) (chip : Chip) (l : Level) :
    (s.driveCs chip l).arg1 = s.arg1 := by cases chip <;> rfl
@[simp] theorem State.driveCs_arg2 (s : State) (chip : Chip) (l : Level) :
    (s.driveCs chip l).arg2 = s.arg2 := by cases chip <;> rfl
@[simp] theorem State.driveCs_result (s : State) (chip : Chip) (l : Level) :
    (s.driveCs chip l).result = s.result := by cases chip <;> rfl
@[simp] theorem State.driveCs_seq (s : State) (chip : Chip) (l : Level) :
    (s.driveCs chip l).seq = s.seq := by cases chip <;> rfl
@[simp] theorem State.driveCs_latch (s : State) (chip : Chip) (l : Level) :
    (s.driveCs chip l).latch = s.latch := by cases chip <;> rfl
@[simp] theorem State.driveCs_tcActive (s : State) (chip : Chip) (l : Level) :
    (s.driveCs chip l).tcActive = s.tcActive := by cases chip <;> rfl
@[simp] theorem State.driveCs_rtdActive (s : State) (chip : Chip) (l : Level) :
    (s.driveCs chip l).rtdActive = s.rtdActive := by cases chip <;> rfl
@[simp] theorem State.driveCs_outCfg (s : State) (chip : Chip) (l : Level) :
    (s.driveCs chip l).outCfg = s.outCfg := by cases chip <;> rfl
@[simp] theorem State.driveCs_curChannel (s : State) (chip : Chip) (l : Level) :
    (s.driveCs chip l).curChannel = s.curChannel := by cases chip <;> rfl
@[simp] theorem State.driveCs_cache (s : State) (chip : Chip) (l : Level) :
    (s.driveCs chip l).cache = s.cache := by cases chip <;> rfl
@[simp] theorem State.driveCs_sel (s : State) (chip : Chip) (l : Level) :
    (s.driveCs chip l).sel = s.sel := by cases chip <;> rfl
@[simp] theorem State.driveCs_route (s : State) (chip : Chip) (l : Level) :
    (s.driveCs chip l).route = s.route := by cases chip <;> rfl
@[simp] theorem State.driveCs_muxState (s : State) (chip : Chip) (l : Level) :
    (s.driveCs chip l).muxState = s.muxState := by cases chip <;> rfl
@[simp] theorem State.driveCs_muxTs (s : State) (chip : Chip) (l : Level) :
    (s.driveCs chip l).muxTs = s.muxTs := by cases chip <;> rfl
@[simp] theorem State.driveCs_cfg (s : State) (chip : Chip) (l : Level) :
    (s.driveCs chip l).cfg = s.cfg := by cases chip <;> rfl
@[simp] theorem State.driveCs_rtdProbe (s : State) (chip : Chip) (l : Level) :
    (s.driveCs chip l).rtdProbe = s.rtdProbe := by cases chip <;> rfl
@[simp] theorem State.driveCs_rtdState (s : State) (chip : Chip) (l : Level) :
    (s.driveCs chip l).rtdState = s.rtdState := by cases chip <;> rfl
@[simp] theorem State.driveCs_rtdTs (s : State) (chip : Chip) (l : Level) :
    (s.driveCs chip l).rtdTs = s.rtdTs := by cases chip <;> rfl
@[simp] theorem State.driveCs_rtdAsyncBiasWasOn (s : State) (chip : Chip) (l : Level) :
    (s.driveCs chip l).rtdAsyncBiasWasOn = s.rtdAsyncBiasWasOn := by cases chip <;> rfl
@[simp] theorem State.driveCs_tcProbe (s : State) (chip : Chip) (l : Level) :
    (s.driveCs chip l).tcProbe = s.tcProbe := by cases chip <;> rfl
@[simp] theorem State.driveCs_tcMask (s : State) (chip : Chip) (l : Level) :
    (s.driveCs chip l).tcMask = s.tcMask := by cases chip <;> rfl
@[simp] theorem State.driveCs_tcOffset (s : State) (chip : Chip) (l : Level) :
    (s.driveCs chip l).tcOffset = s.tcOffset := by cases chip <;> rfl
@[simp] theorem State.driveCs_tcLastFault (s : State) (chip : Chip) (l : Level) :
    (s.driveCs chip l).tcLastFault = s.tcLastFault := by cases chip <;> rfl
@[simp] theorem State.driveCs_sclk (s : State) (chip : Chip) (l : Level) :
    (s.driveCs chip l).sclk = s.sclk := by cases chip <;> rfl
@[simp] theorem State.driveCs_mosi (s : State) (chip : Chip) (l : Level) :
    (s.driveCs chip l).mosi = s.mosi := by cases chip <;> rfl
@[simp] theorem State.driveCs_now (s : State) (chip : Chip) (l : Level) :
    (s.driveCs chip l).now = s.now := by cases chip <;> rfl
@[simp] theorem State.driveCs_reverse (s : State) (chip : Chip) (l : Level) :
    (s.driveCs chip l).reverse = s.reverse := by cases chip <;> rfl
@[simp] theorem State.driveCs_rst (s : State) (chip : Chip) (l : Level) :
    (s.driveCs chip l).rst = s.rst := by cases chip <;> rfl
@[simp] theorem State.driveCs_trace (s : State) (chip : Chip) (l : Level) :
    (s.driveCs chip l).trace = s.trace := by cases chip <;> rfl
@[simp] theorem State.driveCs_turns (s : State) (chip : Chip) (l : Level) :
    (s.driveCs chip l).turns = s.turns := by cases chip <;> rfl
@[simp] theorem State.driveCs_misoIn (s : State) (chip : Chip) (l : Level) :
    (s.driveCs chip l).misoIn = s.misoIn := by cases chip <;> rfl
@[simp] theorem State.driveCs_freeCount (s : State) (chip : Chip) (l : Level) :
    (s.driveCs chip l).freeCount = s.freeCount := by cases chip <;> rfl
@[simp] theorem State.driveCs_hostData (s : State) (chip : Chip) (l : Level) :
    (s.driveCs chip l).hostData = s.hostData := by cases chip <;> rfl
@[simp] theorem State.driveCs_csRtd_rtd (s : State) (l : Level) : (s.driveCs .rtd l).csRtd = l := rfl
@[simp] theorem State.driveCs_csRtd_tc (s : State) (l : Level) : (s.driveCs .tc l).csRtd = s.csRtd := rfl
@[simp] theorem State.driveCs_csTc_rtd (s : State) (l : Level) : (s.driveCs .rtd l).csTc = s.csTc := rfl
@[simp] theorem State.driveCs_csTc_tc (s : State) (l : Level) : (s.driveCs .tc l).csTc = l := rfl

/-! ### `setCs`: a chip select of a lifecycle rule -/

@[simp] theorem State.setCs_params (s : State) (chip : Chip) (l : Level) :
    (s.setCs chip l).params = s.params := by cases chip <;> rfl
@[simp] theorem State.setCs_cmd (s : State) (chip : Chip) (l : Level) :
    (s.setCs chip l).cmd = s.cmd := by cases chip <;> rfl
@[simp] theorem State.setCs_status (s : State) (chip : Chip) (l : Level) :
    (s.setCs chip l).status = s.status := by cases chip <;> rfl
@[simp] theorem State.setCs_arg0 (s : State) (chip : Chip) (l : Level) :
    (s.setCs chip l).arg0 = s.arg0 := by cases chip <;> rfl
@[simp] theorem State.setCs_arg1 (s : State) (chip : Chip) (l : Level) :
    (s.setCs chip l).arg1 = s.arg1 := by cases chip <;> rfl
@[simp] theorem State.setCs_arg2 (s : State) (chip : Chip) (l : Level) :
    (s.setCs chip l).arg2 = s.arg2 := by cases chip <;> rfl
@[simp] theorem State.setCs_result (s : State) (chip : Chip) (l : Level) :
    (s.setCs chip l).result = s.result := by cases chip <;> rfl
@[simp] theorem State.setCs_seq (s : State) (chip : Chip) (l : Level) :
    (s.setCs chip l).seq = s.seq := by cases chip <;> rfl
@[simp] theorem State.setCs_latch (s : State) (chip : Chip) (l : Level) :
    (s.setCs chip l).latch = s.latch := by cases chip <;> rfl
@[simp] theorem State.setCs_tcActive (s : State) (chip : Chip) (l : Level) :
    (s.setCs chip l).tcActive = s.tcActive := by cases chip <;> rfl
@[simp] theorem State.setCs_rtdActive (s : State) (chip : Chip) (l : Level) :
    (s.setCs chip l).rtdActive = s.rtdActive := by cases chip <;> rfl
@[simp] theorem State.setCs_outCfg (s : State) (chip : Chip) (l : Level) :
    (s.setCs chip l).outCfg = s.outCfg := by cases chip <;> rfl
@[simp] theorem State.setCs_curChannel (s : State) (chip : Chip) (l : Level) :
    (s.setCs chip l).curChannel = s.curChannel := by cases chip <;> rfl
@[simp] theorem State.setCs_cache (s : State) (chip : Chip) (l : Level) :
    (s.setCs chip l).cache = s.cache := by cases chip <;> rfl
@[simp] theorem State.setCs_sel (s : State) (chip : Chip) (l : Level) :
    (s.setCs chip l).sel = s.sel := by cases chip <;> rfl
@[simp] theorem State.setCs_route (s : State) (chip : Chip) (l : Level) :
    (s.setCs chip l).route = s.route := by cases chip <;> rfl
@[simp] theorem State.setCs_muxState (s : State) (chip : Chip) (l : Level) :
    (s.setCs chip l).muxState = s.muxState := by cases chip <;> rfl
@[simp] theorem State.setCs_muxTs (s : State) (chip : Chip) (l : Level) :
    (s.setCs chip l).muxTs = s.muxTs := by cases chip <;> rfl
@[simp] theorem State.setCs_cfg (s : State) (chip : Chip) (l : Level) :
    (s.setCs chip l).cfg = s.cfg := by cases chip <;> rfl
@[simp] theorem State.setCs_rtdProbe (s : State) (chip : Chip) (l : Level) :
    (s.setCs chip l).rtdProbe = s.rtdProbe := by cases chip <;> rfl
@[simp] theorem State.setCs_rtdState (s : State) (chip : Chip) (l : Level) :
    (s.setCs chip l).rtdState = s.rtdState := by cases chip <;> rfl
@[simp] theorem State.setCs_rtdTs (s : State) (chip : Chip) (l : Level) :
    (s.setCs chip l).rtdTs = s.rtdTs := by cases chip <;> rfl
@[simp] theorem State.setCs_rtdAsyncBiasWasOn (s : State) (chip : Chip) (l : Level) :
    (s.setCs chip l).rtdAsyncBiasWasOn = s.rtdAsyncBiasWasOn := by cases chip <;> rfl
@[simp] theorem State.setCs_tcProbe (s : State) (chip : Chip) (l : Level) :
    (s.setCs chip l).tcProbe = s.tcProbe := by cases chip <;> rfl
@[simp] theorem State.setCs_tcMask (s : State) (chip : Chip) (l : Level) :
    (s.setCs chip l).tcMask = s.tcMask := by cases chip <;> rfl
@[simp] theorem State.setCs_tcOffset (s : State) (chip : Chip) (l : Level) :
    (s.setCs chip l).tcOffset = s.tcOffset := by cases chip <;> rfl
@[simp] theorem State.setCs_tcLastFault (s : State) (chip : Chip) (l : Level) :
    (s.setCs chip l).tcLastFault = s.tcLastFault := by cases chip <;> rfl
@[simp] theorem State.setCs_sclk (s : State) (chip : Chip) (l : Level) :
    (s.setCs chip l).sclk = s.sclk := by cases chip <;> rfl
@[simp] theorem State.setCs_mosi (s : State) (chip : Chip) (l : Level) :
    (s.setCs chip l).mosi = s.mosi := by cases chip <;> rfl
@[simp] theorem State.setCs_now (s : State) (chip : Chip) (l : Level) :
    (s.setCs chip l).now = s.now := by cases chip <;> rfl
@[simp] theorem State.setCs_reverse (s : State) (chip : Chip) (l : Level) :
    (s.setCs chip l).reverse = s.reverse := by cases chip <;> rfl
@[simp] theorem State.setCs_rst (s : State) (chip : Chip) (l : Level) :
    (s.setCs chip l).rst = s.rst := by cases chip <;> rfl
@[simp] theorem State.setCs_trace (s : State) (chip : Chip) (l : Level) :
    (s.setCs chip l).trace = s.trace ++ [.pin (csPin chip) l] := by cases chip <;> rfl
@[simp] theorem State.setCs_turns (s : State) (chip : Chip) (l : Level) :
    (s.setCs chip l).turns = s.turns := by cases chip <;> rfl
@[simp] theorem State.setCs_misoIn (s : State) (chip : Chip) (l : Level) :
    (s.setCs chip l).misoIn = s.misoIn := by cases chip <;> rfl
@[simp] theorem State.setCs_freeCount (s : State) (chip : Chip) (l : Level) :
    (s.setCs chip l).freeCount = s.freeCount := by cases chip <;> rfl
@[simp] theorem State.setCs_hostData (s : State) (chip : Chip) (l : Level) :
    (s.setCs chip l).hostData = s.hostData := by cases chip <;> rfl
@[simp] theorem State.setCs_csRtd_rtd (s : State) (l : Level) : (s.setCs .rtd l).csRtd = l := rfl
@[simp] theorem State.setCs_csRtd_tc (s : State) (l : Level) : (s.setCs .tc l).csRtd = s.csRtd := rfl
@[simp] theorem State.setCs_csTc_rtd (s : State) (l : Level) : (s.setCs .rtd l).csTc = s.csTc := rfl
@[simp] theorem State.setCs_csTc_tc (s : State) (l : Level) : (s.setCs .tc l).csTc = l := rfl

/-! ### `spiXfer`: a transaction (00_scope.md R10) -/

@[simp] theorem State.spiXfer_params (s : State) (chip : Chip) (mosi : List Byte) :
    (s.spiXfer chip mosi).params = s.params := by cases chip <;> rfl
@[simp] theorem State.spiXfer_cmd (s : State) (chip : Chip) (mosi : List Byte) :
    (s.spiXfer chip mosi).cmd = s.cmd := by cases chip <;> rfl
@[simp] theorem State.spiXfer_status (s : State) (chip : Chip) (mosi : List Byte) :
    (s.spiXfer chip mosi).status = s.status := by cases chip <;> rfl
@[simp] theorem State.spiXfer_arg0 (s : State) (chip : Chip) (mosi : List Byte) :
    (s.spiXfer chip mosi).arg0 = s.arg0 := by cases chip <;> rfl
@[simp] theorem State.spiXfer_arg1 (s : State) (chip : Chip) (mosi : List Byte) :
    (s.spiXfer chip mosi).arg1 = s.arg1 := by cases chip <;> rfl
@[simp] theorem State.spiXfer_arg2 (s : State) (chip : Chip) (mosi : List Byte) :
    (s.spiXfer chip mosi).arg2 = s.arg2 := by cases chip <;> rfl
@[simp] theorem State.spiXfer_result (s : State) (chip : Chip) (mosi : List Byte) :
    (s.spiXfer chip mosi).result = s.result := by cases chip <;> rfl
@[simp] theorem State.spiXfer_seq (s : State) (chip : Chip) (mosi : List Byte) :
    (s.spiXfer chip mosi).seq = s.seq := by cases chip <;> rfl
@[simp] theorem State.spiXfer_latch (s : State) (chip : Chip) (mosi : List Byte) :
    (s.spiXfer chip mosi).latch = s.latch := by cases chip <;> rfl
@[simp] theorem State.spiXfer_tcActive (s : State) (chip : Chip) (mosi : List Byte) :
    (s.spiXfer chip mosi).tcActive = s.tcActive := by cases chip <;> rfl
@[simp] theorem State.spiXfer_rtdActive (s : State) (chip : Chip) (mosi : List Byte) :
    (s.spiXfer chip mosi).rtdActive = s.rtdActive := by cases chip <;> rfl
@[simp] theorem State.spiXfer_outCfg (s : State) (chip : Chip) (mosi : List Byte) :
    (s.spiXfer chip mosi).outCfg = s.outCfg := by cases chip <;> rfl
@[simp] theorem State.spiXfer_curChannel (s : State) (chip : Chip) (mosi : List Byte) :
    (s.spiXfer chip mosi).curChannel = s.curChannel := by cases chip <;> rfl
@[simp] theorem State.spiXfer_cache (s : State) (chip : Chip) (mosi : List Byte) :
    (s.spiXfer chip mosi).cache = s.cache := by cases chip <;> rfl
@[simp] theorem State.spiXfer_sel (s : State) (chip : Chip) (mosi : List Byte) :
    (s.spiXfer chip mosi).sel = s.sel := by cases chip <;> rfl
@[simp] theorem State.spiXfer_route (s : State) (chip : Chip) (mosi : List Byte) :
    (s.spiXfer chip mosi).route = s.route := by cases chip <;> rfl
@[simp] theorem State.spiXfer_muxState (s : State) (chip : Chip) (mosi : List Byte) :
    (s.spiXfer chip mosi).muxState = s.muxState := by cases chip <;> rfl
@[simp] theorem State.spiXfer_muxTs (s : State) (chip : Chip) (mosi : List Byte) :
    (s.spiXfer chip mosi).muxTs = s.muxTs := by cases chip <;> rfl
@[simp] theorem State.spiXfer_cfg (s : State) (chip : Chip) (mosi : List Byte) :
    (s.spiXfer chip mosi).cfg = s.cfg := by cases chip <;> rfl
@[simp] theorem State.spiXfer_rtdProbe (s : State) (chip : Chip) (mosi : List Byte) :
    (s.spiXfer chip mosi).rtdProbe = s.rtdProbe := by cases chip <;> rfl
@[simp] theorem State.spiXfer_rtdState (s : State) (chip : Chip) (mosi : List Byte) :
    (s.spiXfer chip mosi).rtdState = s.rtdState := by cases chip <;> rfl
@[simp] theorem State.spiXfer_rtdTs (s : State) (chip : Chip) (mosi : List Byte) :
    (s.spiXfer chip mosi).rtdTs = s.rtdTs := by cases chip <;> rfl
@[simp] theorem State.spiXfer_rtdAsyncBiasWasOn (s : State) (chip : Chip) (mosi : List Byte) :
    (s.spiXfer chip mosi).rtdAsyncBiasWasOn = s.rtdAsyncBiasWasOn := by cases chip <;> rfl
@[simp] theorem State.spiXfer_tcProbe (s : State) (chip : Chip) (mosi : List Byte) :
    (s.spiXfer chip mosi).tcProbe = s.tcProbe := by cases chip <;> rfl
@[simp] theorem State.spiXfer_tcMask (s : State) (chip : Chip) (mosi : List Byte) :
    (s.spiXfer chip mosi).tcMask = s.tcMask := by cases chip <;> rfl
@[simp] theorem State.spiXfer_tcOffset (s : State) (chip : Chip) (mosi : List Byte) :
    (s.spiXfer chip mosi).tcOffset = s.tcOffset := by cases chip <;> rfl
@[simp] theorem State.spiXfer_tcLastFault (s : State) (chip : Chip) (mosi : List Byte) :
    (s.spiXfer chip mosi).tcLastFault = s.tcLastFault := by cases chip <;> rfl
@[simp] theorem State.spiXfer_mosi (s : State) (chip : Chip) (mosi : List Byte) :
    (s.spiXfer chip mosi).mosi = Config.freeMosi (s.freeCount + mosi.length) := by cases chip <;> rfl
@[simp] theorem State.spiXfer_now (s : State) (chip : Chip) (mosi : List Byte) :
    (s.spiXfer chip mosi).now = s.now := by cases chip <;> rfl
@[simp] theorem State.spiXfer_reverse (s : State) (chip : Chip) (mosi : List Byte) :
    (s.spiXfer chip mosi).reverse = s.reverse := by cases chip <;> rfl
@[simp] theorem State.spiXfer_rst (s : State) (chip : Chip) (mosi : List Byte) :
    (s.spiXfer chip mosi).rst = s.rst := by cases chip <;> rfl
@[simp] theorem State.spiXfer_trace (s : State) (chip : Chip) (mosi : List Byte) :
    (s.spiXfer chip mosi).trace = s.trace ++ s.params.spiEvents chip mosi (s.miso mosi.length) := by cases chip <;> rfl
@[simp] theorem State.spiXfer_turns (s : State) (chip : Chip) (mosi : List Byte) :
    (s.spiXfer chip mosi).turns = s.turns := by cases chip <;> rfl
@[simp] theorem State.spiXfer_misoIn (s : State) (chip : Chip) (mosi : List Byte) :
    (s.spiXfer chip mosi).misoIn = s.misoIn.drop mosi.length := by cases chip <;> rfl
@[simp] theorem State.spiXfer_freeCount (s : State) (chip : Chip) (mosi : List Byte) :
    (s.spiXfer chip mosi).freeCount = s.freeCount + mosi.length := by cases chip <;> rfl
@[simp] theorem State.spiXfer_hostData (s : State) (chip : Chip) (mosi : List Byte) :
    (s.spiXfer chip mosi).hostData = s.hostData := by cases chip <;> rfl
@[simp] theorem State.spiXfer_csRtd_rtd (s : State) (mosi : List Byte) : (s.spiXfer .rtd mosi).csRtd = .high := rfl
@[simp] theorem State.spiXfer_csRtd_tc (s : State) (mosi : List Byte) : (s.spiXfer .tc mosi).csRtd = s.csRtd := rfl
@[simp] theorem State.spiXfer_csTc_rtd (s : State) (mosi : List Byte) : (s.spiXfer .rtd mosi).csTc = s.csTc := rfl
@[simp] theorem State.spiXfer_csTc_tc (s : State) (mosi : List Byte) : (s.spiXfer .tc mosi).csTc = .high := rfl
@[simp] theorem State.spiXfer_sclk (s : State) (chip : Chip) (mosi : List Byte) :
    (s.spiXfer chip mosi).sclk = sclkIdle (s.params.spiMode chip) := by cases chip <;> rfl

/-! ### `send`: a transaction whose answer is discarded -/

@[simp] theorem State.send_params (s : State) (chip : Chip) (mosi : List Byte) (pos : SeqPos) :
    (s.send chip mosi pos).params = s.params := by cases chip <;> rfl
@[simp] theorem State.send_cmd (s : State) (chip : Chip) (mosi : List Byte) (pos : SeqPos) :
    (s.send chip mosi pos).cmd = s.cmd := by cases chip <;> rfl
@[simp] theorem State.send_status (s : State) (chip : Chip) (mosi : List Byte) (pos : SeqPos) :
    (s.send chip mosi pos).status = s.status := by cases chip <;> rfl
@[simp] theorem State.send_arg0 (s : State) (chip : Chip) (mosi : List Byte) (pos : SeqPos) :
    (s.send chip mosi pos).arg0 = s.arg0 := by cases chip <;> rfl
@[simp] theorem State.send_arg1 (s : State) (chip : Chip) (mosi : List Byte) (pos : SeqPos) :
    (s.send chip mosi pos).arg1 = s.arg1 := by cases chip <;> rfl
@[simp] theorem State.send_arg2 (s : State) (chip : Chip) (mosi : List Byte) (pos : SeqPos) :
    (s.send chip mosi pos).arg2 = s.arg2 := by cases chip <;> rfl
@[simp] theorem State.send_result (s : State) (chip : Chip) (mosi : List Byte) (pos : SeqPos) :
    (s.send chip mosi pos).result = s.result := by cases chip <;> rfl
@[simp] theorem State.send_seq (s : State) (chip : Chip) (mosi : List Byte) (pos : SeqPos) :
    (s.send chip mosi pos).seq = pos := by cases chip <;> rfl
@[simp] theorem State.send_latch (s : State) (chip : Chip) (mosi : List Byte) (pos : SeqPos) :
    (s.send chip mosi pos).latch = s.latch := by cases chip <;> rfl
@[simp] theorem State.send_tcActive (s : State) (chip : Chip) (mosi : List Byte) (pos : SeqPos) :
    (s.send chip mosi pos).tcActive = s.tcActive := by cases chip <;> rfl
@[simp] theorem State.send_rtdActive (s : State) (chip : Chip) (mosi : List Byte) (pos : SeqPos) :
    (s.send chip mosi pos).rtdActive = s.rtdActive := by cases chip <;> rfl
@[simp] theorem State.send_outCfg (s : State) (chip : Chip) (mosi : List Byte) (pos : SeqPos) :
    (s.send chip mosi pos).outCfg = s.outCfg := by cases chip <;> rfl
@[simp] theorem State.send_curChannel (s : State) (chip : Chip) (mosi : List Byte) (pos : SeqPos) :
    (s.send chip mosi pos).curChannel = s.curChannel := by cases chip <;> rfl
@[simp] theorem State.send_cache (s : State) (chip : Chip) (mosi : List Byte) (pos : SeqPos) :
    (s.send chip mosi pos).cache = s.cache := by cases chip <;> rfl
@[simp] theorem State.send_sel (s : State) (chip : Chip) (mosi : List Byte) (pos : SeqPos) :
    (s.send chip mosi pos).sel = s.sel := by cases chip <;> rfl
@[simp] theorem State.send_route (s : State) (chip : Chip) (mosi : List Byte) (pos : SeqPos) :
    (s.send chip mosi pos).route = s.route := by cases chip <;> rfl
@[simp] theorem State.send_muxState (s : State) (chip : Chip) (mosi : List Byte) (pos : SeqPos) :
    (s.send chip mosi pos).muxState = s.muxState := by cases chip <;> rfl
@[simp] theorem State.send_muxTs (s : State) (chip : Chip) (mosi : List Byte) (pos : SeqPos) :
    (s.send chip mosi pos).muxTs = s.muxTs := by cases chip <;> rfl
@[simp] theorem State.send_cfg (s : State) (chip : Chip) (mosi : List Byte) (pos : SeqPos) :
    (s.send chip mosi pos).cfg = s.cfg := by cases chip <;> rfl
@[simp] theorem State.send_rtdProbe (s : State) (chip : Chip) (mosi : List Byte) (pos : SeqPos) :
    (s.send chip mosi pos).rtdProbe = s.rtdProbe := by cases chip <;> rfl
@[simp] theorem State.send_rtdState (s : State) (chip : Chip) (mosi : List Byte) (pos : SeqPos) :
    (s.send chip mosi pos).rtdState = s.rtdState := by cases chip <;> rfl
@[simp] theorem State.send_rtdTs (s : State) (chip : Chip) (mosi : List Byte) (pos : SeqPos) :
    (s.send chip mosi pos).rtdTs = s.rtdTs := by cases chip <;> rfl
@[simp] theorem State.send_rtdAsyncBiasWasOn (s : State) (chip : Chip) (mosi : List Byte) (pos : SeqPos) :
    (s.send chip mosi pos).rtdAsyncBiasWasOn = s.rtdAsyncBiasWasOn := by cases chip <;> rfl
@[simp] theorem State.send_tcProbe (s : State) (chip : Chip) (mosi : List Byte) (pos : SeqPos) :
    (s.send chip mosi pos).tcProbe = s.tcProbe := by cases chip <;> rfl
@[simp] theorem State.send_tcMask (s : State) (chip : Chip) (mosi : List Byte) (pos : SeqPos) :
    (s.send chip mosi pos).tcMask = s.tcMask := by cases chip <;> rfl
@[simp] theorem State.send_tcOffset (s : State) (chip : Chip) (mosi : List Byte) (pos : SeqPos) :
    (s.send chip mosi pos).tcOffset = s.tcOffset := by cases chip <;> rfl
@[simp] theorem State.send_tcLastFault (s : State) (chip : Chip) (mosi : List Byte) (pos : SeqPos) :
    (s.send chip mosi pos).tcLastFault = s.tcLastFault := by cases chip <;> rfl
@[simp] theorem State.send_mosi (s : State) (chip : Chip) (mosi : List Byte) (pos : SeqPos) :
    (s.send chip mosi pos).mosi = Config.freeMosi (s.freeCount + mosi.length) := by cases chip <;> rfl
@[simp] theorem State.send_now (s : State) (chip : Chip) (mosi : List Byte) (pos : SeqPos) :
    (s.send chip mosi pos).now = s.now := by cases chip <;> rfl
@[simp] theorem State.send_reverse (s : State) (chip : Chip) (mosi : List Byte) (pos : SeqPos) :
    (s.send chip mosi pos).reverse = s.reverse := by cases chip <;> rfl
@[simp] theorem State.send_rst (s : State) (chip : Chip) (mosi : List Byte) (pos : SeqPos) :
    (s.send chip mosi pos).rst = s.rst := by cases chip <;> rfl
@[simp] theorem State.send_trace (s : State) (chip : Chip) (mosi : List Byte) (pos : SeqPos) :
    (s.send chip mosi pos).trace = s.trace ++ s.params.spiEvents chip mosi (s.miso mosi.length) := by cases chip <;> rfl
@[simp] theorem State.send_turns (s : State) (chip : Chip) (mosi : List Byte) (pos : SeqPos) :
    (s.send chip mosi pos).turns = s.turns := by cases chip <;> rfl
@[simp] theorem State.send_misoIn (s : State) (chip : Chip) (mosi : List Byte) (pos : SeqPos) :
    (s.send chip mosi pos).misoIn = s.misoIn.drop mosi.length := by cases chip <;> rfl
@[simp] theorem State.send_freeCount (s : State) (chip : Chip) (mosi : List Byte) (pos : SeqPos) :
    (s.send chip mosi pos).freeCount = s.freeCount + mosi.length := by cases chip <;> rfl
@[simp] theorem State.send_hostData (s : State) (chip : Chip) (mosi : List Byte) (pos : SeqPos) :
    (s.send chip mosi pos).hostData = s.hostData := by cases chip <;> rfl
@[simp] theorem State.send_csRtd_rtd (s : State) (mosi : List Byte) (pos : SeqPos) :
    (s.send .rtd mosi pos).csRtd = .high := rfl
@[simp] theorem State.send_csRtd_tc (s : State) (mosi : List Byte) (pos : SeqPos) :
    (s.send .tc mosi pos).csRtd = s.csRtd := rfl
@[simp] theorem State.send_csTc_rtd (s : State) (mosi : List Byte) (pos : SeqPos) :
    (s.send .rtd mosi pos).csTc = s.csTc := rfl
@[simp] theorem State.send_csTc_tc (s : State) (mosi : List Byte) (pos : SeqPos) :
    (s.send .tc mosi pos).csTc = .high := rfl
@[simp] theorem State.send_sclk (s : State) (chip : Chip) (mosi : List Byte) (pos : SeqPos) :
    (s.send chip mosi pos).sclk = sclkIdle (s.params.spiMode chip) := by cases chip <;> rfl

end Sys2Proof.Machine
end

