-- ==== Sys2Proof/Laws/Ops.lean ====
section
/-! SUPPORT. What each shared operation can do, said once: the lemmas proofs cite instead of unfolding an
operation. -/

namespace Sys2Proof

/-! ### Fields of a command word (30_encoding.md R46) -/

@[simp] theorem opcOf_mkWord (o a b c : Byte) : opcOf (mkWord o a b c) = o := by
  ext i; simp [opcOf, mkWord]; grind

@[simp] theorem fieldA_mkWord (o a b c : Byte) : fieldA (mkWord o a b c) = a := by
  ext i; simp [fieldA, mkWord]; grind

@[simp] theorem fieldB_mkWord (o a b c : Byte) : fieldB (mkWord o a b c) = b := by
  ext i; simp [fieldB, mkWord]; grind

@[simp] theorem fieldC_mkWord (o a b c : Byte) : fieldC (mkWord o a b c) = c := by
  ext i; simp [fieldC, mkWord]; grind

/-- Masking acts on each field. -/
theorem mkWord_and (o a b c o' a' b' c' : Byte) :
    mkWord o a b c &&& mkWord o' a' b' c' = mkWord (o &&& o') (a &&& a') (b &&& b') (c &&& c') := by
  ext i; simp [mkWord]; grind

/-- A word is its four fields. -/
theorem mkWord_fields (w : Word) : mkWord (opcOf w) (fieldA w) (fieldB w) (fieldC w) = w := by
  ext i; simp [opcOf, fieldA, fieldB, fieldC, mkWord]; grind

@[simp] theorem chipOfField_chipField (chip : Chip) : chipOfField (chipField chip) = chip := by
  cases chip <;> rfl

@[simp] theorem enOfField_bitField (en : Bool) : enOfField (bitField en) = en := by
  cases en <;> rfl

@[simp] theorem maskOfField_setWidth (m : BitVec 4) : maskOfField (m.setWidth 8) = m := by
  revert m; decide

/-- A code outside the ProbeType table stays unknown (R48). -/
theorem probeOfField_of_le {b : Byte} (h : 6 ≤ b.toNat) : probeOfField b = .unknown b := by
  unfold probeOfField; split <;> first | omega | rfl

theorem cycleOfField_of_le {b : Byte} (h : 4 ≤ b.toNat) : cycleOfField b = .unknown b := by
  unfold cycleOfField; split <;> first | omega | rfl

theorem tableOfField_of_le {b : Byte} (h : 6 ≤ b.toNat) : tableOfField b = .unknown b := by
  unfold tableOfField; split <;> first | omega | rfl

theorem channelOfField_of_le {b : Byte} (h : 3 ≤ b.toNat) : channelOfField b = .unknown b := by
  unfold channelOfField; split <;> first | omega | rfl

/-- A well-formed coded operand is read back from its field (R48). -/
theorem probeOfField_codedField {p : Coded ProbeType} (h : p.wf probeCodes = true) :
    probeOfField (codedField probeCode p) = p := by
  cases p with
  | known p => cases p <;> rfl
  | unknown c => exact probeOfField_of_le (of_decide_eq_true h)

theorem cycleOfField_codedField {p : Coded FaultCycle} (h : p.wf cycleCodes = true) :
    cycleOfField (codedField cycleCode p) = p := by
  cases p with
  | known p => cases p <;> rfl
  | unknown c => exact cycleOfField_of_le (of_decide_eq_true h)

theorem tableOfField_codedField {p : Coded TableId} (h : p.wf tableCodes = true) :
    tableOfField (codedField tableCode p) = p := by
  cases p with
  | known p => cases p <;> rfl
  | unknown c => exact tableOfField_of_le (of_decide_eq_true h)

theorem channelOfField_codedField {p : Coded Channel} (h : p.wf channelCodes = true) :
    channelOfField (codedField channelCode p) = p := by
  cases p with
  | known p => cases p <;> rfl
  | unknown c => exact channelOfField_of_le (of_decide_eq_true h)

/-- A written command decodes to the instruction of its used bits (R47, R54). -/
theorem decode_word_rtdSetAuto (en : Byte) : decode (mkWord 0x14 0 0 en) = .ok (.rtdSetAuto (enOfField en)) := by
  simp [decode]

theorem decode_word_rtdSet50Hz (en : Byte) : decode (mkWord 0x15 0 0 en) = .ok (.rtdSet50Hz (enOfField en)) := by
  simp [decode]

theorem decode_word_rtdSetBias (en : Byte) : decode (mkWord 0x16 0 0 en) = .ok (.rtdSetBias (enOfField en)) := by
  simp [decode]

theorem decode_word_tcSetFaultMask (m : Byte) :
    decode (mkWord 0x21 0 0 m) = .ok (.tcSetFaultMask (maskOfField m)) := by
  simp [decode]

end Sys2Proof

namespace Sys2Proof.Machine

/-! ### Status bits -/

@[simp] theorem Status.finish_ok (st : Status) (ok : Bool) : (st.finish ok).ok = ok := rfl
@[simp] theorem Status.finish_busy (st : Status) (ok : Bool) : (st.finish ok).busy = false := rfl
@[simp] theorem Status.finish_done (st : Status) (ok : Bool) : (st.finish ok).done = true := rfl
@[simp] theorem Status.finish_ovr (st : Status) (ok : Bool) : (st.finish ok).ovr = st.ovr := rfl
@[simp] theorem Status.finish_errIllegal (st : Status) (ok : Bool) : (st.finish ok).errIllegal = st.errIllegal := rfl
@[simp] theorem Status.finish_errArg (st : Status) (ok : Bool) : (st.finish ok).errArg = st.errArg := rfl
@[simp] theorem Status.finish_errInactive (st : Status) (ok : Bool) :
    (st.finish ok).errInactive = st.errInactive := rfl
@[simp] theorem Status.fail_ok (st : Status) (e : CmdError) : (st.fail e).ok = false := rfl
@[simp] theorem Status.fail_busy (st : Status) (e : CmdError) : (st.fail e).busy = false := rfl
@[simp] theorem Status.fail_done (st : Status) (e : CmdError) : (st.fail e).done = true := rfl
@[simp] theorem Status.fail_ovr (st : Status) (e : CmdError) : (st.fail e).ovr = st.ovr := rfl

/-! ### Waits (00_scope.md R9) -/

/-- A wait answers one of two next states, and which one is a matter of time alone. -/
theorem whenElapsed_next {t0 : Word} {d : Nat} {s go t : State} :
    whenElapsed t0 d s go = .next t ↔
      (d ≤ s.elapsed t0 ∧ t = go) ∨ (s.elapsed t0 < d ∧ t = s) := by
  unfold whenElapsed
  split <;> simp_all [eq_comm]

/-- A wait never stops. -/
theorem whenElapsed_isNext (t0 : Word) (d : Nat) (s go : State) : ∃ t, whenElapsed t0 d s go = .next t := by
  unfold whenElapsed; split <;> exact ⟨_, rfl⟩

theorem whenElapsed_of_le {t0 : Word} {d : Nat} {s go : State} (h : d ≤ (s.now - t0).toNat % 2 ^ s.params.tw) :
    whenElapsed t0 d s go = .next go := if_pos h

theorem whenElapsed_of_lt {t0 : Word} {d : Nat} {s go : State} (h : (s.now - t0).toNat % 2 ^ s.params.tw < d) :
    whenElapsed t0 d s go = .next s := if_neg (Nat.not_le.mpr h)

/-- A wait that is not 0 is entered, and a wait of 0 is passed in the same step. -/
theorem State.waitThen_cases (s : State) (label d : Nat) (flag : Bool) (go : State) :
    (d = 0 ∧ s.waitThen label d flag go = go) ∨ (d ≠ 0 ∧ s.waitThen label d flag go = s.wait label d flag) := by
  unfold State.waitThen; split <;> simp_all

@[simp] theorem State.waitThen_zero (s : State) (label : Nat) (flag : Bool) (go : State) :
    s.waitThen label 0 flag go = go := rfl

theorem State.waitThen_of_ne {d : Nat} (h : d ≠ 0) (s : State) (label : Nat) (flag : Bool) (go : State) :
    s.waitThen label d flag go = s.wait label d flag := if_neg h

/-- The activity check answers one of two next states (41_rtd_engine.md R73). -/
theorem ifRtdActive_next {s go t : State} :
    ifRtdActive s go = .next t ↔
      (s.rtdActive = true ∧ t = go) ∨ (s.rtdActive = false ∧ t = s.fail .inactive) := by
  unfold ifRtdActive; cases s.rtdActive <;> simp [eq_comm]

/-! ### Transfers -/

@[simp] theorem misoBytes_length : ∀ (n k : Nat) (q : List Byte), (misoBytes n k q).length = n
  | 0, _, _ => rfl
  | n + 1, k, [] => congrArg (· + 1) (misoBytes_length n (k + 1) [])
  | n + 1, k, _ :: q => congrArg (· + 1) (misoBytes_length n (k + 1) q)

/-- Every transaction has an answer of the length of its request. -/
@[simp] theorem State.miso_length (s : State) (n : Nat) : (s.miso n).length = n := misoBytes_length ..

/-- The script's bytes are answered first. -/
theorem misoBytes_append : ∀ (q r : List Byte) (k : Nat), misoBytes q.length k (q ++ r) = q
  | [], _, _ => rfl
  | b :: q, r, k => congrArg (b :: ·) (misoBytes_append q r (k + 1))

@[simp] theorem rxByte_rxWord (a b : Byte) : rxByte (rxWord [a, b]) = b := by
  ext i; simp [rxByte, rxWord]; grind

@[simp] theorem rxHalf_rxWord (a b c : Byte) : rxHalf (rxWord [a, b, c]) = b ++ c := by
  ext i; simp [rxHalf, rxWord]; grind

@[simp] theorem rxWord_four (a b c d : Byte) : rxWord [a, b, c, d] = a ++ b ++ c ++ d := by
  ext i; simp [rxWord]; grind

@[simp] theorem spiCount_append : ∀ a b : List Event, spiCount (a ++ b) = spiCount a + spiCount b
  | [], b => by simp [spiCount]
  | e :: a, b => by cases e <;> simp +arith [spiCount, spiCount_append a b]

/-- A transaction counts as one. -/
@[simp] theorem spiCount_spiEvents (c : Params) (chip : Chip) (mosi miso : List Byte) :
    spiCount (c.spiEvents chip mosi miso) = 1 := by
  cases chip <;> rfl

/-- `recv` is `send` with the received bytes in the next position. -/
@[simp] theorem State.recv_eq (chip : Chip) (mosi : List Byte) (l : Nat) (f : Bool) (s : State) :
    s.recv chip mosi l f = s.send chip mosi (.sent l (rxWord (s.miso mosi.length)) f) := rfl

/-- `writeByte(RTD, ...)` is `send`. -/
@[simp] theorem State.rtdWrite_eq (addr val : Byte) (pos : SeqPos) (s : State) :
    s.rtdWrite addr val pos = s.send .rtd [writeAddr addr, val] pos := rfl

/-- `CfgWrite` is `send` (41_rtd_engine.md R71). -/
@[simp] theorem State.cfgWrite_eq (extra : Byte) (pos : SeqPos) (s : State) :
    s.cfgWrite extra pos = s.send .rtd [writeAddr s.params.rtdAddrConfig, s.cfg ||| extra] pos := rfl

@[simp] theorem spiOnly_append : ∀ a b : List Event, spiOnly (a ++ b) = spiOnly a ++ spiOnly b
  | [], b => rfl
  | e :: a, b => by cases e <;> simp [spiOnly, spiOnly_append a b]

/-- The transactions among a transaction's entries are the transaction. -/
@[simp] theorem spiOnly_spiEvents (c : Params) (chip : Chip) (mosi miso : List Byte) :
    spiOnly (c.spiEvents chip mosi miso) = [.spi chip mosi miso] := by
  cases chip <;> rfl

/-- `spiCount` counts what `spiOnly` keeps. -/
theorem spiCount_eq_length : ∀ es : List Event, spiCount es = (spiOnly es).length
  | [] => rfl
  | e :: es => by cases e <;> simp [spiCount, spiOnly, spiCount_eq_length es]

/-! ### The shared-output handle (44_lifecycle.md R111, R112) -/

/-- Acquiring acts exactly when no sub-driver is active. -/
theorem State.acquire_eq (s : State) :
    s.acquire = if s.tcActive || s.rtdActive then s else s.clearMux true := by
  unfold State.acquire; cases s.tcActive <;> cases s.rtdActive <;> rfl

/-- Releasing acts exactly when no sub-driver is active and the outputs are configured. -/
theorem State.release_eq (s : State) :
    s.release = if s.tcActive || s.rtdActive || !s.outCfg then s else s.clearMux false := by
  unfold State.release; cases s.tcActive <;> cases s.rtdActive <;> cases s.outCfg <;> rfl

/-! ### The multiplexer (43_channel_mux.md R106, R109, R110) -/

/-- Driving the lines takes the time exactly when they change. -/
theorem State.selectLines_eq (s : State) (ch : Channel) (rev : Bool) :
    s.selectLines ch rev =
      { s with
        curChannel := some ch
        sel := oneHot (physOf ch rev)
        muxTs := if oneHot (physOf ch rev) = s.sel then s.muxTs else s.now
        muxState := if oneHot (physOf ch rev) = s.sel then s.muxState else .switching
        trace := s.trace ++ ({ s with sel := oneHot (physOf ch rev) } : State).selEvents } := by
  unfold State.selectLines; split_ifs <;> simp_all

/-- The settle delay of a family, by name (43_channel_mux.md R105). -/
@[simp] theorem Params.settle_tc (c : Params) : c.settle .tc = c.tSettleTc := rfl
@[simp] theorem Params.settle_rtd (c : Params) : c.settle .rtd = c.tSettleRtd := rfl
@[simp] theorem Params.routeLevel_tc (c : Params) : c.routeLevel .tc = !c.routeRtdLevel := rfl
@[simp] theorem Params.routeLevel_rtd (c : Params) : c.routeLevel .rtd = c.routeRtdLevel := rfl

/-- Every wait of a command is at most the longest one. -/
theorem Params.settle_le_longestWait (c : Params) (fam : Family) : c.settle fam ≤ c.longestWait := by
  cases fam <;> simp [Params.longestWait]

theorem State.convTime_le_longestWait (s : State) : s.convTime ≤ s.params.longestWait := by
  unfold State.convTime Params.longestWait; split <;> simp

theorem State.autoTime_le_longestWait (s : State) : s.autoTime ≤ s.params.longestWait := by
  unfold State.autoTime Params.longestWait; split <;> simp

theorem Params.tBias_le_longestWait (c : Params) : c.tBias ≤ c.longestWait := by simp [Params.longestWait]

theorem Params.tFaultAuto_le_longestWait (c : Params) : c.tFaultAuto ≤ c.longestWait := by
  simp [Params.longestWait]

@[simp] theorem spiCount_selEvents (s : State) : spiCount s.selEvents = 0 := rfl
@[simp] theorem spiCount_routeEvents (s : State) : spiCount s.routeEvents = 0 := rfl
@[simp] theorem spiOnly_selEvents (s : State) : spiOnly s.selEvents = [] := rfl
@[simp] theorem spiOnly_routeEvents (s : State) : spiOnly s.routeEvents = [] := rfl

/-- What the end of a blocking selection answers. -/
theorem State.muxSelEnd_cases (fam : Family) (s : State) :
    (s.muxState = .selected ∧ s.muxSelEnd fam = s.finish true) ∨
    (s.muxState = .switching ∧ s.params.settle fam ≤ s.elapsed s.muxTs ∧
      s.muxSelEnd fam = ({ s with muxState := .selected } : State).finish true) ∨
    (s.muxState = .switching ∧ s.elapsed s.muxTs < s.params.settle fam ∧
      s.muxSelEnd fam = { s with seq := .hold 2 s.muxTs (s.params.settle fam) false }) := by
  unfold State.muxSelEnd
  split
  · exact .inl ⟨‹_›, rfl⟩
  · split
    · exact .inr (.inl ⟨‹_›, ‹_›, rfl⟩)
    · exact .inr (.inr ⟨‹_›, Nat.not_le.mp ‹_›, rfl⟩)

/-- What the end of a non-blocking selection answers. -/
theorem State.muxSelAsyncEnd_cases (fam : Family) (s : State) :
    (s.muxState = .selected ∧ s.muxSelAsyncEnd fam = s.finish true) ∨
    (s.muxState = .switching ∧ s.params.settle fam ≤ s.elapsed s.muxTs ∧
      s.muxSelAsyncEnd fam = ({ s with muxState := .selected } : State).finish true) ∨
    (s.muxState = .switching ∧ s.elapsed s.muxTs < s.params.settle fam ∧
      s.muxSelAsyncEnd fam = s.finish false) := by
  unfold State.muxSelAsyncEnd
  split
  · exact .inl ⟨‹_›, rfl⟩
  · split
    · exact .inr (.inl ⟨‹_›, ‹_›, rfl⟩)
    · exact .inr (.inr ⟨‹_›, Nat.not_le.mp ‹_›, rfl⟩)

/-- What `Setup` leaves before the lines are driven. -/
theorem State.muxSetup_cases (ch : Channel) (p : ProbeType) (fam : Family) (s : State) :
    (fam = .rtd ∧ (s.setRoute fam).mustReprogram ch p = true ∧
      s.muxSetup ch p fam =
        (((s.setRoute fam).rtdType p).cfgWrite 0 (.sent 1 0 (s.setRoute fam).reverse), true)) ∨
    (fam = .tc ∧ (s.setRoute fam).mustReprogram ch p = true ∧
      s.muxSetup ch p fam = (({ s.setRoute fam with tcProbe := p } : State).cacheProbe ch p, false)) ∨
    ((s.setRoute fam).mustReprogram ch p = false ∧ s.muxSetup ch p fam = (s.setRoute fam, false)) := by
  unfold State.muxSetup
  cases h : (s.setRoute fam).mustReprogram ch p <;> cases fam <;> simp [h]

/-- What the checks of R108 let through. -/
theorem State.muxRequest_select {c : Coded Channel} {q : Coded ProbeType} {s : State} {ch : Channel}
    {p : ProbeType} {fam : Family} (h : s.muxRequest c q = .select ch p fam) :
    c = .known ch ∧ q = .known p ∧ familyOf p = some fam ∧ s.familyActive fam = true ∧
      channelCode ch < s.params.nch := by
  unfold State.muxRequest at h
  repeat' split at h
  all_goals simp_all

/-! ### Readings (42_tc_engine.md R99, R100) -/

/-- A reading ends in one of three ways. -/
theorem State.tcReading_cases (raw : Word) (value : Option Fp) (s : State) :
    (s.maskedFault raw ≠ 0#4 ∧
      s.tcReading raw value = ({ s with tcLastFault := s.maskedFault raw } : State).finishWith Fp.nan) ∨
    (s.maskedFault raw = 0#4 ∧ value = none ∧ s.tcReading raw value = s.finishWith Fp.nan) ∨
    ∃ v, s.maskedFault raw = 0#4 ∧ value = some v ∧ s.tcReading raw value = s.finishWith v := by
  unfold State.tcReading
  split
  · exact .inl ⟨‹_›, rfl⟩
  · cases value with
    | none => exact .inr (.inl ⟨by simp_all, rfl, rfl⟩)
    | some v => exact .inr (.inr ⟨v, by simp_all, rfl, rfl⟩)

/-! ### Host accesses and steps -/

/-- Which offsets have a register (20_memory.md R32). -/
theorem hostReg_isSome (off : Nat) : (hostReg off).isSome = decide (off % 4 = 0 ∧ off < 0x40) := by
  by_cases h : off < 0x40
  · have : ∀ n : Fin 0x40, (hostReg n).isSome = decide ((n : Nat) % 4 = 0 ∧ (n : Nat) < 0x40) := by decide
    exact this ⟨off, h⟩
  · unfold hostReg; split <;> simp_all

/-- A write to an offset that has a register, outside reset, has that register's effect. -/
theorem hostAccess_write {off : Nat} {r : HostReg} {v : Word} {s : State} (hr : s.rst = false)
    (h : hostReg off = some r) : hostAccess (.write off 4 v) s = .next (s.hostWrite r v) := by
  have := hostReg_isSome off
  simp_all [hostAccess, accessRefusal]

/-- A read of an offset that has a register, outside reset, delivers that register's word. -/
theorem hostAccess_read {off : Nat} {r : HostReg} {s : State} (hr : s.rst = false)
    (h : hostReg off = some r) :
    hostAccess (.read off 4) s = .next { s with hostData := some (s.hostRead r) } := by
  have := hostReg_isSome off
  simp_all [hostAccess, accessRefusal]

/-- An engine step is one of three things. -/
theorem engineTurn_cases (s : State) :
    ((s.rst = true ∨ s.status.busy = false) ∧ engineTurn s = .next s) ∨
    (s.rst = false ∧ s.status.busy = true ∧ ∃ i, decode s.latch.cmd = .ok i ∧ engineTurn s = exec i s) ∨
    (s.rst = false ∧ s.status.busy = true ∧
      ∃ e, decode s.latch.cmd = .error e ∧ engineTurn s = .next (s.fail .illegal)) := by
  unfold engineTurn State.fetchWord
  cases s.rst <;> cases s.status.busy <;> simp
  cases h : decode s.latch.cmd <;> simp

/-- A step is the turn of one agent. -/
theorem step_eq (s : State) :
    (s.turns = [] ∧ step s = takeTurn s.defaultTurn s) ∨
      ∃ t ts, s.turns = t :: ts ∧ step s = takeTurn t { s with turns := ts } := by
  unfold step
  split
  · exact .inl ⟨‹_›, rfl⟩
  · exact .inr ⟨_, _, ‹_›, rfl⟩

/-! ### Rows of engine steps -/

@[simp] theorem engineSteps_zero (i : Instr) (s : State) : engineSteps i 0 s = .next s := rfl

/-- The first step of a row. -/
theorem engineSteps_succ {i : Instr} {k : Nat} {s t : State} (h : exec i s = .next t) :
    engineSteps i (k + 1) s = engineSteps i k t := by
  simp [engineSteps, h]

end Sys2Proof.Machine
end

