-- ==== Sys2Proof/Laws/PerInstr.lean ====
section
/-! SUPPORT. Facts about each command as syntax, one lemma per constructor. -/

namespace Sys2Proof.Laws.EncodeReserved

/-- The word the encoder writes has every bit the command does not use at 0 (30_encoding.md R54). -/
def Statement (i : Instr) : Prop := encode i &&& ~~~i.usedBits = 0#32

/-- The statement, field by field. -/
theorem of_fields {o a b c : Byte} (mo ma mb mc : Byte) {m : Word} (hm : ~~~m = mkWord mo ma mb mc)
    (ho : o &&& mo = 0) (ha : a &&& ma = 0) (hb : b &&& mb = 0) (hc : c &&& mc = 0) :
    mkWord o a b c &&& ~~~m = 0#32 := by
  rw [hm, mkWord_and, ho, ha, hb, hc]; rfl

theorem chip_within (chip : Chip) : chipField chip &&& 0xFE = 0 := by cases chip <;> rfl

theorem bit_within (b : Bool) : bitField b &&& 0xFE = 0 := by cases b <;> rfl

theorem mask_within (m : BitVec 4) : m.setWidth 8 &&& 0xF0#8 = 0 := by revert m; decide

/-- No mask: the whole field is used. -/
theorem all_within (x : Byte) : x &&& 0 = 0 := BitVec.and_zero

theorem nop : Statement .nop := rfl
theorem spiRd8 (chip : Chip) (addr : Byte) : Statement (.spiRd8 chip addr) :=
  of_fields 0 0xFE 0 0xFF (by simp only [Instr.usedBits]; decide) rfl (chip_within chip) (all_within addr) rfl
theorem spiRd16 (chip : Chip) (addr : Byte) : Statement (.spiRd16 chip addr) :=
  of_fields 0 0xFE 0 0xFF (by simp only [Instr.usedBits]; decide) rfl (chip_within chip) (all_within addr) rfl
theorem spiWr8 (chip : Chip) (addr : Byte) (value : Byte) : Statement (.spiWr8 chip addr value) :=
  of_fields 0 0xFE 0 0 (by simp only [Instr.usedBits]; decide) rfl (chip_within chip) (all_within addr) (all_within value)
theorem tcRd32 : Statement .tcRd32 := rfl
theorem rtdSetType (probe : Coded ProbeType) : Statement (.rtdSetType probe) :=
  of_fields 0 0xFF 0 0xFF (by simp only [Instr.usedBits]; decide) rfl rfl (all_within _) rfl
theorem rtdSetThresh : Statement .rtdSetThresh := rfl
theorem rtdGetLower : Statement .rtdGetLower := rfl
theorem rtdGetUpper : Statement .rtdGetUpper := rfl
theorem rtdSetAuto (en : Bool) : Statement (.rtdSetAuto en) :=
  of_fields 0 0xFF 0xFF 0xFE (by simp only [Instr.usedBits]; decide) rfl rfl rfl (bit_within en)
theorem rtdSet50Hz (en : Bool) : Statement (.rtdSet50Hz en) :=
  of_fields 0 0xFF 0xFF 0xFE (by simp only [Instr.usedBits]; decide) rfl rfl rfl (bit_within en)
theorem rtdSetBias (en : Bool) : Statement (.rtdSetBias en) :=
  of_fields 0 0xFF 0xFF 0xFE (by simp only [Instr.usedBits]; decide) rfl rfl rfl (bit_within en)
theorem rtdReadFault (cycle : Coded FaultCycle) : Statement (.rtdReadFault cycle) :=
  of_fields 0 0 0xFF 0xFF (by simp only [Instr.usedBits]; decide) rfl (all_within _) rfl rfl
theorem rtdClearFault : Statement .rtdClearFault := rfl
theorem rtdRead : Statement .rtdRead := rfl
theorem rtdReadAsync : Statement .rtdReadAsync := rfl
theorem tcSetType (probe : Coded ProbeType) : Statement (.tcSetType probe) :=
  of_fields 0 0xFF 0 0xFF (by simp only [Instr.usedBits]; decide) rfl rfl (all_within _) rfl
theorem tcSetFaultMask (mask : BitVec 4) : Statement (.tcSetFaultMask mask) :=
  of_fields 0 0xFF 0xFF 0xF0 (by simp only [Instr.usedBits]; decide) rfl rfl rfl (mask_within mask)
theorem tcGetLastFault : Statement .tcGetLastFault := rfl
theorem tcSetCjOffset : Statement .tcSetCjOffset := rfl
theorem tcDecHot : Statement .tcDecHot := rfl
theorem tcDecCold : Statement .tcDecCold := rfl
theorem tcReadVolt : Statement .tcReadVolt := rfl
theorem tcReadTemp : Statement .tcReadTemp := rfl
theorem muxSel (channel : Coded Channel) (probe : Coded ProbeType) : Statement (.muxSel channel probe) :=
  of_fields 0 0 0 0xFF (by simp only [Instr.usedBits]; decide) rfl (all_within _) (all_within _) rfl
theorem muxSelAsync (channel : Coded Channel) (probe : Coded ProbeType) : Statement (.muxSelAsync channel probe) :=
  of_fields 0 0 0 0xFF (by simp only [Instr.usedBits]; decide) rfl (all_within _) (all_within _) rfl
theorem beginTc : Statement .beginTc := rfl
theorem beginRtd : Statement .beginRtd := rfl
theorem beginBoth : Statement .beginBoth := rfl
theorem endTc : Statement .endTc := rfl
theorem endRtd : Statement .endRtd := rfl
theorem endBoth : Statement .endBoth := rfl
theorem polyEval (table : Coded TableId) : Statement (.polyEval table) :=
  of_fields 0 0 0xFF 0xFF (by simp only [Instr.usedBits]; decide) rfl (all_within _) rfl rfl
theorem rtdCalcRes : Statement .rtdCalcRes := rfl
theorem rtdCalcTemp : Statement .rtdCalcTemp := rfl

end Sys2Proof.Laws.EncodeReserved
end

