-- ==== Sys2Proof/Tests/Slice0.lean ====
section
/-! SUPPORT. Tests of the model, their expected results taken from the spec's encodings (30_encoding.md R52) and
test vectors (95_test_vectors.md, cited by their ids), and for each statement with hypotheses a witness: a concrete
state and operands that meet all of them. -/

namespace Sys2Proof.Tests

open Sys2Proof.Machine

/-! ### Well-formedness: each check refuses an ill-formed term (30_encoding.md R47, R48, R50, R51) -/

theorem test_wf_rtdSetType : Instr.wf (.rtdSetType (.unknown 5)) = false := by decide
theorem test_wf_tcSetType : Instr.wf (.tcSetType (.unknown 0)) = false := by decide
theorem test_wf_rtdReadFault : Instr.wf (.rtdReadFault (.unknown 3)) = false := by decide
theorem test_wf_polyEval : Instr.wf (.polyEval (.unknown 5)) = false := by decide
theorem test_wf_muxSel_channel : Instr.wf (.muxSel (.unknown 2) (.known .tcK)) = false := by decide
theorem test_wf_muxSel_probe : Instr.wf (.muxSel (.known .ch0) (.unknown 5)) = false := by decide
theorem test_wf_muxSelAsync_channel : Instr.wf (.muxSelAsync (.unknown 0) (.known .rtd2W)) = false := by decide
theorem test_wf_muxSelAsync_probe : Instr.wf (.muxSelAsync (.known .ch2) (.unknown 4)) = false := by decide

/-! ### Decoding: words written out from R52 -/

theorem test_decode_nop : decode 0x00000000#32 = .ok .nop := by decide
theorem test_decode_nop_ignores_fields : decode 0x00FFFFFF#32 = .ok .nop := by decide
theorem test_decode_spiRd8 : decode 0x01000700#32 = .ok (.spiRd8 .rtd 0x07) := by decide
theorem test_decode_spiRd8_tc : decode 0x01010000#32 = .ok (.spiRd8 .tc 0x00) := by decide
theorem test_decode_spiRd16 : decode 0x02000100#32 = .ok (.spiRd16 .rtd 0x01) := by decide
theorem test_decode_spiWr8 : decode 0x030000C2#32 = .ok (.spiWr8 .rtd 0x00 0xC2) := by decide
theorem test_decode_tcRd32 : decode 0x04000000#32 = .ok .tcRd32 := by decide
theorem test_decode_rtdSetType : decode 0x10000500#32 = .ok (.rtdSetType (.known .rtd3W)) := by decide
theorem test_decode_rtdSetType_unknown : decode 0x10000600#32 = .ok (.rtdSetType (.unknown 6)) := by decide
theorem test_decode_rtdSetThresh : decode 0x11000000#32 = .ok .rtdSetThresh := by decide
theorem test_decode_rtdGetLower : decode 0x12000000#32 = .ok .rtdGetLower := by decide
theorem test_decode_rtdGetUpper : decode 0x13000000#32 = .ok .rtdGetUpper := by decide
theorem test_decode_rtdSetAuto : decode 0x14000001#32 = .ok (.rtdSetAuto true) := by decide
theorem test_decode_rtdSet50Hz : decode 0x15000001#32 = .ok (.rtdSet50Hz true) := by decide
theorem test_decode_rtdSetBias : decode 0x16000001#32 = .ok (.rtdSetBias true) := by decide
theorem test_decode_rtdSetBias_bit0_only : decode 0x160000FE#32 = .ok (.rtdSetBias false) := by decide
theorem test_decode_rtdReadFault : decode 0x17010000#32 = .ok (.rtdReadFault (.known .auto)) := by decide
theorem test_decode_rtdReadFault_manual : decode 0x17020000#32 = .ok (.rtdReadFault (.known .manualRun)) := by decide
theorem test_decode_rtdClearFault : decode 0x18000000#32 = .ok .rtdClearFault := by decide
theorem test_decode_rtdRead : decode 0x19000000#32 = .ok .rtdRead := by decide
theorem test_decode_rtdReadAsync : decode 0x1A000000#32 = .ok .rtdReadAsync := by decide
theorem test_decode_tcSetType : decode 0x20000200#32 = .ok (.tcSetType (.known .tcJ)) := by decide
theorem test_decode_tcSetFaultMask : decode 0x210000F1#32 = .ok (.tcSetFaultMask 0x1) := by decide
theorem test_decode_tcGetLastFault : decode 0x22000000#32 = .ok .tcGetLastFault := by decide
theorem test_decode_tcSetCjOffset : decode 0x23000000#32 = .ok .tcSetCjOffset := by decide
theorem test_decode_tcDecHot : decode 0x24000000#32 = .ok .tcDecHot := by decide
theorem test_decode_tcDecCold : decode 0x25000000#32 = .ok .tcDecCold := by decide
theorem test_decode_tcReadVolt : decode 0x26000000#32 = .ok .tcReadVolt := by decide
theorem test_decode_tcReadTemp : decode 0x27000000#32 = .ok .tcReadTemp := by decide
theorem test_decode_muxSel : decode 0x30010500#32 = .ok (.muxSel (.known .ch1) (.known .rtd3W)) := by decide
theorem test_decode_muxSel_unknown : decode 0x30030100#32 = .ok (.muxSel (.unknown 3) (.known .tcK)) := by decide
theorem test_decode_muxSelAsync : decode 0x31020200#32 = .ok (.muxSelAsync (.known .ch2) (.known .tcJ)) := by decide
theorem test_decode_beginTc : decode 0x40000000#32 = .ok .beginTc := by decide
theorem test_decode_beginRtd : decode 0x41000000#32 = .ok .beginRtd := by decide
theorem test_decode_beginBoth : decode 0x42000000#32 = .ok .beginBoth := by decide
theorem test_decode_endTc : decode 0x43000000#32 = .ok .endTc := by decide
theorem test_decode_endRtd : decode 0x44000000#32 = .ok .endRtd := by decide
theorem test_decode_endBoth : decode 0x45000000#32 = .ok .endBoth := by decide
theorem test_decode_polyEval : decode 0x50030000#32 = .ok (.polyEval (.known .invK)) := by decide
theorem test_decode_polyEval_unknown : decode 0x50060000#32 = .ok (.polyEval (.unknown 6)) := by decide
theorem test_decode_rtdCalcRes : decode 0x51000000#32 = .ok .rtdCalcRes := by decide
theorem test_decode_rtdCalcTemp : decode 0x52000000#32 = .ok .rtdCalcTemp := by decide
theorem test_decode_unassigned : decode 0x05000000#32 = .error (.unassignedOpcode 0x05) := by decide
theorem test_decode_unassigned_top : decode 0xFF123456#32 = .error (.unassignedOpcode 0xFF) := by decide
theorem test_tableWord : decodeTableWord 32 0x30010500 = some (.muxSel (.known .ch1) (.known .rtd3W)) := by decide

/-! ### Helpers: small states, and what an outcome leaves -/

/-- Both sub-drivers active, a command accepted, `now` = 100, nothing selected. -/
def ready : State :=
  { State.reset with
    status := { busy := true, done := false, ok := false, errIllegal := false, errArg := false,
                errInactive := false, ovr := false }
    seq := .start, now := 100, reverse := false, mosi := false, tcActive := true, rtdActive := true
    outCfg := true, csRtd := .high, csTc := .high, misoIn := [0x00, 0x40, 0x01, 0x00] }

/-- No sub-driver active, a command accepted. -/
def closed : State :=
  { ready with tcActive := false, rtdActive := false, outCfg := false, csRtd := .z, csTc := .z }

/-- No command executing. -/
def quiet : State := { ready with status := { State.reset.status with ok := true }, seq := .idle }

/-- `ready` with a config mirror. -/
def withCfg (cfg : Byte) : State := { ready with cfg := cfg }

/-- `ready` with a latched `ARG0`. -/
def withArg (arg0 : Word) : State := { ready with latch := { ready.latch with arg0 := arg0 } }

/-- `ready` with channel 1 selected for a 3-wire RTD, settled. -/
def selected : State :=
  { ready with
    route := true, curChannel := some .ch1, sel := 0b010, cache := { ready.cache with ch1 := .rtd3W }
    cfg := 0x10, rtdProbe := .rtd3W }

/-- `selected` with a switch started at time `t0` still pending. -/
def pending (t0 : Word) : State := { selected with muxState := .switching, muxTs := t0 }

/-- Another configuration: timestamps of 8 bits, two channels, `ROUTE` low for RTD, bias restored. -/
def other : Params :=
  { Params.default with tw := 8, nch := 2, routeRtdLevel := false, asyncRestoreBias := true, tcAbsent := 0 }

/-- A configuration whose RTD waits are all 0. -/
def prompt : Params :=
  { Params.default with tBias := 0, tConv60 := 0, tConv50 := 0, tAuto60 := 0, tAuto50 := 0, tFaultAuto := 0 }

/-- The next state, or the given one where there is none. -/
def after (o : Outcome) (s : State) : State :=
  match o with
  | .next t => t
  | .fault _ => s
  | .refused _ => s

/-- The state after one engine step. -/
def one (i : Instr) (s : State) : State := after (exec i s) s

/-- The MOSI bytes of the transactions in the trace. -/
def sentBytes (s : State) : List (List Byte) :=
  s.trace.filterMap fun e =>
    match e with
    | .spi _ mosi _ => some mosi
    | .busBegin _ _ _ => none
    | .busEnd _ => none
    | .pin _ _ => none

/-! ### One step of each command -/

/-- E1. -/
theorem test_nop : (one .nop ready).status.word = 0x00000006#32 := by decide
/-- E2. -/
theorem test_unassigned :
    (after (takeTurn .engine (quiet.accept 0x05000000)) quiet).status.word = 0x0000000A#32 := by decide
/-- T1: the address and fill bytes. -/
theorem test_spiRd8 : sentBytes (one (.spiRd8 .rtd 0x87) ready) = [[0x07, 0x00]] := by decide
/-- T4. -/
theorem test_spiRd8_inactive : (one (.spiRd8 .rtd 0x07) closed).status.word = 0x00000022#32 := by decide
/-- T6. -/
theorem test_spiRd16 : (after (engineSteps (.spiRd16 .rtd 0x01) 2 ready) ready).result = 0x00004001#32 := by decide
/-- T8. -/
theorem test_spiWr8 :
    sentBytes (one (.spiWr8 .rtd 0x00 0xC2) ready) = [[0x80, 0xC2]] ∧ (one (.spiWr8 .rtd 0x00 0xC2) ready).cfg = 0 := by
  decide
/-- T10. -/
theorem test_tcRd32 :
    (after (engineSteps .tcRd32 2 { ready with misoIn := [0x01, 0x90, 0x18, 0x00] }) ready).result = 0x01901800#32 := by
  decide
/-- R1. -/
theorem test_rtdSetType :
    sentBytes (one (.rtdSetType (.known .rtd3W)) ready) = [[0x80, 0x10]] ∧
      (one (.rtdSetType (.known .rtd3W)) ready).rtdstate = 0x00000510#32 := by decide
/-- R5: ERR_ARG wins over ERR_INACTIVE. -/
theorem test_rtdSetType_priority : (one (.rtdSetType (.unknown 6)) closed).status.word = 0x00000012#32 := by decide
/-- R6, the four writes. -/
theorem test_rtdSetThresh :
    sentBytes (after (engineSteps .rtdSetThresh 4 (withArg 0xABCD1234)) ready) =
      [[0x85, 0x12], [0x86, 0x34], [0x83, 0xAB], [0x84, 0xCD]] := by decide
/-- R7. -/
theorem test_rtdGetLower :
    sentBytes (one .rtdGetLower ready) = [[0x05, 0x00, 0x00]] ∧
      (one .rtdGetLower (one .rtdGetLower { ready with misoIn := [0xEE, 0x12, 0x34] })).result = 0x00001234#32 := by
  decide
/-- R8. -/
theorem test_rtdGetUpper :
    sentBytes (one .rtdGetUpper ready) = [[0x03, 0x00, 0x00]] ∧
      (one .rtdGetUpper (one .rtdGetUpper { ready with misoIn := [0x00, 0xFF, 0xFF] })).result = 0x0000FFFF#32 := by
  decide
/-- R19: the wait is 70 with the 50 Hz filter. -/
theorem test_rtdSetAuto :
    (one (.rtdSetAuto true) (one (.rtdSetAuto true) (withCfg 0x81))).seq = .hold 2 100 70 false := by
  decide
/-- R21: already on, no wait. -/
theorem test_rtdSetAuto_on : (one (.rtdSetAuto true) (one (.rtdSetAuto true) (withCfg 0x40))).seq = .idle := by decide
/-- `Wait(0)` does not hold: the command ends in the step after its write (00_scope.md R9). -/
theorem test_rtdSetAuto_promptly :
    (after (engineSteps (.rtdSetAuto true) 2 { ready with params := prompt }) ready).status.word = 0x00000006#32 := by
  decide
/-- R18. -/
theorem test_rtdSet50Hz : sentBytes (one (.rtdSet50Hz true) (withCfg 0x10)) = [[0x80, 0x11]] := by decide
/-- R16. -/
theorem test_rtdSetBias :
    sentBytes (one (.rtdSetBias true) ready) = [[0x80, 0x80]] ∧ (one (.rtdSetBias true) ready).cfg = 0x80#8 := by decide
/-- R10: the trigger byte, and the mirror after the wait's entry. -/
theorem test_rtdReadFault_auto :
    sentBytes (one (.rtdReadFault (.known .auto)) (withCfg 0x11)) = [[0x80, 0x95]] ∧
      (one (.rtdReadFault (.known .auto)) (one (.rtdReadFault (.known .auto)) (withCfg 0x11))).cfg = 0x91#8 := by decide
/-- R11. -/
theorem test_rtdReadFault_manual :
    sentBytes (one (.rtdReadFault (.known .manualRun)) (withCfg 0x50)) = [[0x80, 0x98]] ∧
      (one (.rtdReadFault (.known .manualRun))
        (one (.rtdReadFault (.known .manualRun)) (withCfg 0x50))).cfg = 0x90#8 := by
  decide
/-- R15. -/
theorem test_rtdClearFault :
    sentBytes (one .rtdClearFault (withCfg 0xD1)) = [[0x80, 0xD3]] ∧
      (one .rtdClearFault (withCfg 0xD1)).cfg = 0xD1#8 := by
  decide
/-- R23: the first two writes, then `Wait(T_BIAS)`. -/
theorem test_rtdRead_bias :
    sentBytes (after (engineSteps .rtdRead 2 ready) ready) = [[0x80, 0x02], [0x80, 0x80]] ∧
      (after (engineSteps .rtdRead 3 ready) ready).seq = .hold 2 100 10 false := by decide
/-- R26: the fault bit of the sample is dropped. -/
theorem test_rtdRead_code : (one .rtdRead { ready with seq := .sent 4 0x0000FFFF true }).result = 0x00007FFF#32 := by
  decide
/-- R27, call 1. -/
theorem test_rtdReadAsync_settle :
    (after (engineSteps .rtdReadAsync 3 ready) ready).rtdState = .settling ∧
      sentBytes (after (engineSteps .rtdReadAsync 3 ready) ready) = [[0x80, 0x02], [0x80, 0x80]] := by decide
/-- R30: `Elapsed` is wraparound-safe. -/
theorem test_rtdReadAsync_wrap :
    sentBytes (one .rtdReadAsync { ready with rtdState := .settling, rtdTs := 0xFFFFFFF8, now := 2 }) =
      [[0x80, 0x20]] := by decide
/-- C13. -/
theorem test_tcSetType : (one (.tcSetType (.known .tcJ)) closed).tcstate = 0x00000702#32 := by decide
/-- C15. -/
theorem test_tcSetFaultMask : (one (.tcSetFaultMask 0x1) ready).tcMask = 0x1#4 := by decide
/-- C15: the program's word, as `CMD` reads back. -/
theorem test_tcSetFaultMask_program :
    assemble [.cmd (.tcSetFaultMask 0xF1)] = [.host (.write 0x00 4 0x210000F1)] ∧
      (after (takeTurn (.host (.write 0x00 4 0x210000F1)) quiet) quiet).cmd = 0x210000F1#32 := by decide
/-- C20: returned and cleared. -/
theorem test_tcGetLastFault :
    (one .tcGetLastFault { ready with tcLastFault := 1 }).result = 1#32 ∧
      (one .tcGetLastFault { ready with tcLastFault := 1 }).tcLastFault = 0#4 := by decide
/-- C12: the offset 0.0. -/
theorem test_tcSetCjOffset : (one .tcSetCjOffset (withArg 0)).tcOffset = 0#32 := by decide
/-- C1 and C3. -/
theorem test_tcDecHot :
    (one .tcDecHot (withArg 0x7FFFFF00)).result = 0x44FFF800#32 ∧
      (one .tcDecHot (withArg 0xFFFC0000)).result = 0xBE800000#32 := by decide +kernel
/-- C9 and C10. -/
theorem test_tcDecCold :
    (one .tcDecCold (withArg 0x00007FF0)).result = 0x42FBACCD#32 ∧
      (one .tcDecCold (withArg 0x00008000)).result = 0xC302199A#32 := by decide +kernel
/-- The first row of the table of TC reads, K: the exponential correction included. -/
theorem test_tcReadVolt :
    (one .tcReadVolt { ready with seq := .sent 1 0x01901800 false, tcProbe := .tcK }).result = 0x3F6A84EF#32 := by
  decide +kernel
/-- C22: a masked fault is latched by overwriting. -/
theorem test_tcReadVolt_fault :
    (one .tcReadVolt { ready with seq := .sent 1 0x0190180C false, tcProbe := .tcK, tcLastFault := 1 }).tcLastFault =
      4#4 := by decide
/-- The second row of the table, J. -/
theorem test_tcReadTemp :
    (one .tcReadTemp { ready with seq := .sent 1 0x06401900 false, tcProbe := .tcJ }).result = 0x42A2E846#32 := by
  decide +kernel
/-- C24: a probe without a table. -/
theorem test_tcReadTemp_noTable :
    (one .tcReadTemp { ready with seq := .sent 1 0x01901800 false, tcProbe := .rtd2W }).result = 0x7FC00000#32 := by
  decide
/-- M1. -/
theorem test_muxSel :
    (one (.muxSel (.known .ch0) (.known .tcK)) ready).cacheWord = 0x001#32 ∧
      (one (.muxSel (.known .ch0) (.known .tcK)) ready).seq = .hold 2 100 150 false := by decide
/-- M12: the probe is checked before the channel. -/
theorem test_muxSel_none : (one (.muxSel (.unknown 7) (.known .none)) ready).status.word = 0x00000012#32 := by decide
/-- M4. -/
theorem test_muxSelAsync :
    (one (.muxSelAsync (.known .ch2) (.known .tcJ)) ready).sel = 0b100#3 ∧
      (one (.muxSelAsync (.known .ch2) (.known .tcJ)) ready).status.word = 0x00000002#32 := by decide
/-- M8, its second step: `REVERSE` = 1, channel 2. -/
theorem test_muxSelAsync_reversed :
    (after (engineSteps (.muxSelAsync (.known .ch2) (.known .rtd2W)) 2 { ready with reverse := true }) ready).engstate =
      0x0019020F#32 := by decide
/-- L1. -/
theorem test_beginTc :
    (one .beginTc { closed with seq := .sent 1 0x01901800 false, outCfg := true }).engstate = 0x0000FF05#32 := by decide
/-- L2: no chip; the outputs are released. -/
theorem test_beginTc_absent :
    (one .beginTc { closed with seq := .sent 1 0x00FFFFFF false, outCfg := true }).engstate = 0x0000FF00#32 := by decide
/-- L5: the seven writes. -/
theorem test_beginRtd :
    sentBytes (after (engineSteps .beginRtd 7 closed) closed) =
      [[0x80, 0x00], [0x80, 0x00], [0x85, 0x00], [0x86, 0x00], [0x83, 0xFF], [0x84, 0xFF], [0x80, 0x02]] := by decide
/-- L6. -/
theorem test_beginRtd_active : (one .beginRtd (withCfg 0x11)).cfg = 0x11#8 := by decide
/-- L8: the TC chip is absent. -/
theorem test_beginBoth :
    (one .beginBoth { closed with seq := .sent 8 0 false, outCfg := true }).engstate = 0x0000FF06#32 := by decide
/-- L9: the RTD sub-driver keeps the outputs. -/
theorem test_endTc :
    (one .endTc { ready with curChannel := some .ch1, sel := 0b010 }).engstate = 0x00020106#32 := by decide
/-- L10. -/
theorem test_endRtd : (one .endRtd { selected with tcActive := false }).engstate = 0x0000FF00#32 := by decide
/-- L11. -/
theorem test_endBoth : (one .endBoth closed).status.word = 0x00000006#32 := by decide
/-- D1 and D4. -/
theorem test_polyEval :
    (one (.polyEval (.known .fwdK)) (withArg 0x42C80000)).result = 0x407F31C9#32 ∧
      (one (.polyEval (.known .fwdK)) (withArg 0xC3870000)).result = 0xC0CEA598#32 := by decide +kernel
/-- D25. -/
theorem test_rtdCalcRes :
    (one .rtdCalcRes { ready with latch := ⟨0, 32767, 0x43C80000, 0⟩ }).result = 0x43C7FE70#32 := by decide +kernel
/-- P5 and P6: the sub-zero branch and the quadratic branch. -/
theorem test_rtdCalcTemp :
    (one .rtdCalcTemp { ready with latch := ⟨0, 0, 0x43C80000, 0x42C80000⟩ }).result = 0xC372051F#32 ∧
      (one .rtdCalcTemp { ready with latch := ⟨0, 8192, 0x43C80000, 0x42C80000⟩ }).result = 0x80000000#32 := by
  decide +kernel
/-- E5, its second write. -/
theorem test_overrun :
    (after (takeTurn (.host (.write 0x00 4 0)) ready) ready).status.word = 0x00000101#32 := by decide
/-- E11: the views at reset with `REVERSE` = 1. -/
theorem test_reset : { State.reset with reverse := true }.engstate = 0x0010FF00#32 := by decide

/-! ### Witnesses: the hypotheses of each statement, met together -/

theorem witness_DecodeOfEncode :
    Instr.wf (.muxSel (.unknown 3) (.unknown 6)) = true ∧ Instr.wf (.muxSelAsync (.known .ch2) (.known .rtd3W)) = true ∧
      Instr.wf (.rtdReadFault (.unknown 4)) = true ∧ Instr.wf (.polyEval (.unknown 255)) = true := by decide

theorem witness_EncodeOfDecode : decode 0x31FF06AA#32 = .ok (.muxSelAsync (.unknown 0xFF) (.unknown 6)) := by decide

theorem witness_UnusedBitsIgnored :
    decode 0x140000FF#32 = .ok (.rtdSetAuto true) ∧
      0x14FFFF01#32 &&& (Instr.rtdSetAuto true).usedBits = 0x140000FF#32 &&& (Instr.rtdSetAuto true).usedBits := by
  decide

/-- Each range of R53 at both ends, and an idle state. -/
theorem witness_UnassignedOpcodeFails :
    quiet.status.busy = false ∧ quiet.rst = false ∧
      ([0x05, 0x0F, 0x1B, 0x1F, 0x28, 0x2F, 0x32, 0x3F, 0x46, 0x4F, 0x53, 0xFF] : List Byte).all
        (fun o => decide (decode (mkWord o 0 0 0) = .error (.unassignedOpcode o))) = true ∧
      ([0x00, 0x04, 0x10, 0x1A, 0x20, 0x27, 0x30, 0x31, 0x40, 0x45, 0x50, 0x52] : List Byte).all
        (fun o => (decode (mkWord o 0 0 0)).isOk) = true := by decide

theorem witness_StepRunsDecodedCommand :
    ready.rst = false ∧ ready.status.busy = true ∧ decode ready.latch.cmd = .ok .nop ∧ ready.turns = [] ∧
      ready.engineReady = true ∧ ({ ready with turns := [.engine, .clock] } : State).turns = .engine :: [.clock] := by
  decide

theorem witness_CmdSubmission :
    quiet.rst = false ∧ quiet.status.busy = false ∧ ready.rst = false ∧ ready.status.busy = true := by decide

theorem witness_OverrunIsSticky_set :
    ∃ t, step { ready with turns := [.host (.write 0x00 4 7)] } = .next t ∧ ready.status.ovr = false ∧
      t.status.ovr = true := ⟨_, rfl, by decide⟩

/-- Cleared by the host, and by reset. -/
theorem witness_OverrunIsSticky_clear :
    (∃ t, step { ready with status := ready.status.overrun, turns := [.host (.write 0x04 4 0x100)] } = .next t ∧
      ready.status.overrun.ovr = true ∧ t.status.ovr = false) ∧
    ∃ t, step { ready with status := ready.status.overrun, turns := [.reset true] } = .next t ∧ t.status.ovr = false :=
  ⟨⟨_, rfl, by decide⟩, _, rfl, by decide⟩

/-- The hypothesis of StatusRegister and RegisterBlockReads, and of HostAccessEffects at the ends of its ranges. -/
theorem witness_HostAccess :
    ready.rst = false ∧ 0x14 % 4 = 0 ∧ 0x14 < 0x40 ∧ 0x14 ≤ 0x14 ∧ 0x3C % 4 = 0 ∧ 0x3C < 0x40 ∧ 0x00 % 4 = 0 := by
  decide

theorem witness_OtherAccessesRefused :
    (1 ≠ 4 ∨ 0 % 4 ≠ 0 ∨ 0x40 ≤ 0) ∧ (4 ≠ 4 ∨ 0x3E % 4 ≠ 0 ∨ 0x40 ≤ 0x3E) ∧ (4 ≠ 4 ∨ 0x40 % 4 ≠ 0 ∨ 0x40 ≤ 0x40) := by
  decide

theorem witness_ResetAndIdle :
    quiet.status.busy = false ∧ ({ ready with rst := true } : State).rst = true := by decide

theorem witness_OnlyClockAdvancesTime :
    ∃ t, takeTurn .engine ready = .next t ∧ Turn.engine ≠ Turn.clock ∧ t.status.done = true := ⟨_, rfl, by decide⟩

/-- `TW` is a parameter: 8 bits wrap at 256. -/
theorem test_clock_wraps : ({ ready with params := other, now := 255 } : State).clockTick.now = 0#32 := by decide

/-- The hypothesis of EngineLeavesHostAndInputs and OneTransferPerStep. -/
theorem witness_EngineStep :
    ∃ t, exec (.spiRd8 .tc 0x00) ready = .next t ∧ spiCount t.trace = 1 := ⟨_, rfl, by decide⟩

theorem witness_ResultWrittenOnSuccessOnly :
    ∃ t, exec (.spiRd8 .tc 0x00) { ready with seq := .sent 1 5 false } = .next t ∧ t.result ≠ ready.result :=
  ⟨_, rfl, by decide⟩

/-- Each clause of CommandErrors. -/
theorem witness_CommandErrors :
    closed.seq = .start ∧ badOperand (.rtdSetType (.unknown 6)) = true ∧
      badOperand (.muxSel (.unknown 3) (.known .none)) = true ∧
      badOperand (.muxSel (.unknown 3) (.known .tcK)) = false ∧
      closed.lacks (.muxSel (.unknown 3) (.known .tcK)) = true ∧
      badOperand .tcRd32 = false ∧ ready.lacks .tcRd32 = false ∧
      ({ ready with seq := .sent 1 0 false } : State).seq ≠ .start ∧
      ∃ t, exec .tcRd32 { ready with seq := .sent 1 0 false } = .next t :=
  ⟨by decide, by decide, by decide, by decide, by decide, by decide, by decide, by decide, _, rfl⟩

/-- Each clause of WhoWritesWhat. -/
theorem witness_WhoWritesWhat :
    (∃ t, exec (.tcSetType (.known .tcJ)) ready = .next t ∧ t.tcProbe ≠ ready.tcProbe) ∧
    (∃ t, exec (.tcSetFaultMask 0) ready = .next t ∧ t.tcMask ≠ ready.tcMask) ∧
    (∃ t, exec .tcSetCjOffset ready = .next t ∧ t.tcOffset ≠ ready.tcOffset) ∧
    (∃ t, exec .tcReadVolt { ready with seq := .sent 1 1 false } = .next t ∧ t.tcLastFault ≠ ready.tcLastFault) ∧
    (∃ t, exec .endTc ready = .next t ∧ t.tcActive ≠ ready.tcActive ∧ t.csTc ≠ ready.csTc) ∧
    (∃ t, exec .endRtd ready = .next t ∧ t.rtdActive ≠ ready.rtdActive ∧ t.csRtd ≠ ready.csRtd) ∧
    (∃ t, exec .rtdReadAsync { ready with seq := .sent 2 0 false } = .next t ∧ t.rtdState ≠ ready.rtdState ∧
      t.rtdTs ≠ ready.rtdTs) ∧
    (∃ t, exec .rtdReadAsync { withCfg 0x80 with seq := .sent 1 0 false } = .next t ∧
      t.rtdAsyncBiasWasOn ≠ ready.rtdAsyncBiasWasOn) ∧
    (∃ t, exec (.rtdSetBias true) ready = .next t ∧ t.cfg ≠ ready.cfg) ∧
    (∃ t, exec (.rtdSetType (.known .rtd3W)) ready = .next t ∧ t.rtdProbe ≠ ready.rtdProbe) ∧
    (∃ t, exec .rtdClearFault { ready with csRtd := .z } = .next t ∧ t.csRtd ≠ .z) ∧
    (∃ t, exec .tcRd32 { ready with csTc := .z } = .next t ∧ t.csTc ≠ .z) ∧
    (∃ t, exec .endBoth ready = .next t ∧ t.outCfg ≠ ready.outCfg) ∧
    ∃ t, exec (.muxSel (.known .ch0) (.known .tcK)) ready = .next t ∧ t.sel ≠ ready.sel ∧ t.muxTs ≠ ready.muxTs :=
  ⟨⟨_, rfl, by decide⟩, ⟨_, rfl, by decide⟩, ⟨_, rfl, by decide +kernel⟩, ⟨_, rfl, by decide⟩, ⟨_, rfl, by decide⟩,
    ⟨_, rfl, by decide⟩, ⟨_, rfl, by decide⟩, ⟨_, rfl, by decide⟩, ⟨_, rfl, by decide⟩, ⟨_, rfl, by decide⟩,
    ⟨_, rfl, by decide⟩, ⟨_, rfl, by decide⟩, ⟨_, rfl, by decide⟩, _, rfl, by decide⟩

/-- Just before the end of a wait, and at it. -/
theorem witness_WaitHolds :
    (let s : State := { ready with seq := .hold 2 91 10 false }
     s.seq = .hold 2 91 10 false ∧ SeqFits s.params .rtdRead s.seq = true ∧
       (s.now - 91#32).toNat % 2 ^ s.params.tw < 10) ∧
    (let s : State := { ready with seq := .hold 2 90 10 false }
     s.seq = .hold 2 90 10 false ∧ SeqFits s.params .rtdRead s.seq = true ∧
       10 ≤ (s.now - 90#32).toNat % 2 ^ s.params.tw) := by decide

/-- The hypotheses of NopCompletes, RawReadsComplete, RawWriteCompletes, RtdSettersComplete,
ThresholdCommandsComplete, TcSettersComplete, TcDecodeCommands, BeginIsIdempotent and PipelineCommandsComplete. -/
theorem witness_ready :
    ready.seq = .start ∧ ready.chipActive .rtd = true ∧ ready.chipActive .tc = true ∧ ready.tcActive = true ∧
      ready.rtdActive = true ∧ ready.miso 2 = [0x00, 0x40] ∧ ready.miso 3 = [0x00, 0x40, 0x01] ∧
      ready.miso 4 = [0x00, 0x40, 0x01, 0x00] := by decide

/-- Each clause of SetAutoCompletes, the wait's ends and a wait of 0 included. -/
theorem witness_SetAutoCompletes :
    ready.seq = .start ∧ ready.rtdActive = true ∧ ready.continuous = false ∧ (withCfg 0x40).continuous = true ∧
      (ready.cfg ||| ready.params.cfgAuto) &&& ready.params.cfgFilter50 = 0#8 ∧ ready.params.tAuto60 ≠ 0 ∧
      ({ ready with params := prompt } : State).params.tAuto60 = 0 ∧
      (159#32 - ready.now).toNat % 2 ^ ready.params.tw < ready.params.tAuto60 ∧
      ready.params.tAuto60 ≤ (160#32 - ready.now).toNat % 2 ^ ready.params.tw := by decide

/-- Each clause of ReadFaultCompletes, the wait's ends and a wait of 0 included. -/
theorem witness_ReadFaultCompletes :
    ready.seq = .start ∧ ready.rtdActive = true ∧ ready.miso 2 = [0x00, 0x40] ∧
      (100#32 - ready.now).toNat % 2 ^ ready.params.tw < ready.params.tFaultAuto ∧
      ready.params.tFaultAuto ≤ (101#32 - ready.now).toNat % 2 ^ ready.params.tw ∧
      ready.params.tFaultAuto ≠ 0 ∧ (ready.spiXfer .rtd [0x80, 0x84]).miso 2 = [0x01, 0x00] ∧
      (let s : State := { ready with params := prompt }
       s.params.tFaultAuto = 0 ∧ (s.spiXfer .rtd [0x80, 0x84]).miso 2 = [0x01, 0x00]) := by decide

theorem witness_ReadContinuousCompletes :
    (withCfg 0x40).seq = .start ∧ (withCfg 0x40).rtdActive = true ∧ (withCfg 0x40).continuous = true ∧
      (withCfg 0x40).bias = false ∧ (withCfg 0xC0).continuous = true ∧ (withCfg 0xC0).bias = true ∧
      ({ withCfg 0x40 with misoIn := [0, 0, 1, 2, 3] }.spiXfer .rtd [0x80, 0x42]).miso 3 = [1, 2, 3] := by decide

/-- The conversion wait's ends, and a wait of 0. -/
theorem witness_ReadOneShotBiasOnCompletes :
    (withCfg 0x80).seq = .start ∧ (withCfg 0x80).rtdActive = true ∧ (withCfg 0x80).continuous = false ∧
      (withCfg 0x80).bias = true ∧ (withCfg 0x80).filter50 = false ∧ ready.params.tConv60 ≠ 0 ∧ prompt.tConv60 = 0 ∧
      (164#32 - ready.now).toNat % 2 ^ ready.params.tw < ready.params.tConv60 ∧
      ready.params.tConv60 ≤ (165#32 - ready.now).toNat % 2 ^ ready.params.tw ∧
      (({ withCfg 0x80 with misoIn := [0, 0, 0, 0, 1, 2, 3] }.spiXfer .rtd [0x80, 0x82]).spiXfer .rtd
        [0x80, 0xA0]).miso 3 = [1, 2, 3] ∧
      (({ withCfg 0x80 with params := prompt, misoIn := [0, 0, 0, 0, 1, 2, 3] }.spiXfer .rtd [0x80, 0x82]).spiXfer .rtd
        [0x80, 0xA0]).miso 3 = [1, 2, 3] := by decide

/-- Both waits' ends, and waits of 0. -/
theorem witness_ReadOneShotBiasOffCompletes :
    ready.seq = .start ∧ ready.rtdActive = true ∧ ready.continuous = false ∧ ready.bias = false ∧
      (109#32 - ready.now).toNat % 2 ^ ready.params.tw < ready.params.tBias ∧
      ready.params.tBias ≤ (110#32 - ready.now).toNat % 2 ^ ready.params.tw ∧
      (174#32 - 110#32).toNat % 2 ^ ready.params.tw < ready.params.tConv60 ∧
      ready.params.tConv60 ≤ (175#32 - 110#32).toNat % 2 ^ ready.params.tw ∧
      ready.params.tBias ≠ 0 ∧ ready.params.tConv60 ≠ 0 ∧ prompt.tBias = 0 ∧ prompt.tConv60 = 0 ∧
      ((({ ready with misoIn := [0, 0, 0, 0, 0, 0, 1, 2, 3] }.spiXfer .rtd [0x80, 0x02]).spiXfer .rtd
        [0x80, 0x80]).spiXfer .rtd [0x80, 0xA0]).miso 3 = [1, 2, 3] ∧
      ((({ ready with params := prompt, misoIn := [0, 0, 0, 0, 0, 0, 1, 2, 3] }.spiXfer .rtd [0x80, 0x02]).spiXfer .rtd
        [0x80, 0x80]).spiXfer .rtd [0x80, 0xA0]).miso 3 = [1, 2, 3] := by decide

/-- Each phase of ReadAsyncPhases, the ends of its waits included, and both values of `ASYNC_RESTORE_BIAS`. -/
theorem witness_ReadAsyncPhases :
    ready.seq = .start ∧ ready.rtdActive = true ∧ ready.rtdState = .idle ∧ ready.bias = false ∧
      (withCfg 0x80).bias = true ∧
      (let s : State := { ready with rtdState := .settling, rtdTs := 91 }
       s.rtdState = .settling ∧ (s.now - s.rtdTs).toNat % 2 ^ s.params.tw < s.params.tBias) ∧
      (let s : State := { ready with rtdState := .settling, rtdTs := 90 }
       s.params.tBias ≤ (s.now - s.rtdTs).toNat % 2 ^ s.params.tw) ∧
      (let s : State := { ready with rtdState := .converting, rtdTs := 36 }
       s.rtdState = .converting ∧ s.filter50 = false ∧ (s.now - s.rtdTs).toNat % 2 ^ s.params.tw < s.params.tConv60) ∧
      (let s : State := { ready with rtdState := .converting, rtdTs := 35 }
       s.params.tConv60 ≤ (s.now - s.rtdTs).toNat % 2 ^ s.params.tw ∧ s.miso 3 = [0x00, 0x40, 0x01] ∧
         s.params.asyncRestoreBias = false) ∧
      other.asyncRestoreBias = true ∧ ready.rtdAsyncBiasWasOn = false := by decide

/-- Each clause of TcReadingsComplete: a masked fault, no table, a reading. -/
theorem witness_TcReadingsComplete :
    ready.seq = .start ∧ ready.tcActive = true ∧
      ({ ready with misoIn := [0x01, 0x90, 0x18, 0x01] } : State).miso 4 = [0x01, 0x90, 0x18, 0x01] ∧
      (0x01901801#32).extractLsb' 0 4 &&& ready.tcMask ≠ 0#4 ∧ ready.miso 4 = [0x00, 0x40, 0x01, 0x00] ∧
      (0x00400100#32).extractLsb' 0 4 &&& ready.tcMask = 0#4 ∧ ready.tcProbe = .none ∧
      ({ ready with tcProbe := .tcK } : State).tcProbe = .tcK ∧
      ({ ready with tcProbe := .rtd3W } : State).tcProbe = .rtd3W := by decide

/-- The LSBs of the spec. -/
theorem witness_DecodeProductsExact :
    Params.default.tcHotLsb = 0x3E800000#32 ∧ Params.default.tcColdLsb = 0x3D800000#32 := by decide +kernel

theorem witness_OneLineHigh : ready.outCfg = true := by decide

theorem witness_SelectTcSwitches :
    ready.seq = .start ∧ familyOf .tcK = some .tc ∧ ready.tcActive = true ∧ channelCode .ch2 < ready.params.nch ∧
      oneHot (physOf .ch0 ready.reverse) ≠ ready.sel ∧ ready.params.tSettleTc ≠ 0 ∧ ready.curChannel ≠ some .ch0 ∧
      (let s : State := { selected with reverse := true, sel := 0b100, cache := { ready.cache with ch1 := .tcK } }
       s.curChannel = some .ch1 ∧ s.cache.get .ch1 = .tcK ∧ oneHot (physOf .ch1 s.reverse) ≠ s.sel) ∧
      (249#32 - ready.now).toNat % 2 ^ ready.params.tw < ready.params.tSettleTc ∧
      ready.params.tSettleTc ≤ (250#32 - ready.now).toNat % 2 ^ ready.params.tw := by decide

/-- A new channel, and a cached probe whose lines `REVERSE` changes (70_reset_and_hazards.md R164). -/
theorem witness_SelectRtdSwitches :
    ready.seq = .start ∧ familyOf .rtd3W = some .rtd ∧ ready.rtdActive = true ∧ channelCode .ch1 < ready.params.nch ∧
      ready.params.tSettleRtd ≠ 0 ∧ ready.curChannel ≠ some .ch1 ∧ oneHot (physOf .ch1 ready.reverse) ≠ ready.sel ∧
      (let s : State :=
        { ready with reverse := true, curChannel := some .ch2, sel := 0b100
                     cache := { ready.cache with ch2 := .rtd2W } }
       s.curChannel = some .ch2 ∧ s.cache.get .ch2 = .rtd2W ∧ oneHot (physOf .ch2 s.reverse) ≠ s.sel) ∧
      (174#32 - ready.now).toNat % 2 ^ ready.params.tw < ready.params.tSettleRtd ∧
      ready.params.tSettleRtd ≤ (175#32 - ready.now).toNat % 2 ^ ready.params.tw := by decide

theorem witness_ReselectionIsImmediate :
    selected.seq = .start ∧ familyOf .rtd3W = some .rtd ∧ selected.familyActive .rtd = true ∧
      channelCode .ch1 < selected.params.nch ∧ selected.outCfg = true ∧ selected.curChannel = some .ch1 ∧
      selected.cache.get .ch1 = .rtd3W ∧ selected.sel = oneHot (physOf .ch1 selected.reverse) ∧
      selected.muxState = .selected ∧ selected.route = selected.params.routeRtdLevel := by decide

/-- With and without a reprogram, of both families; with no switch pending, and with one on both sides of the delay,
also polled with a probe of the other family (test vector M7). The same states meet AsyncSettleWindow. -/
theorem witness_SelectWithoutSwitch :
    selected.seq = .start ∧ familyOf .rtd2W = some .rtd ∧ familyOf .tcK = some .tc ∧ selected.familyActive .rtd = true ∧
      selected.familyActive .tc = true ∧ channelCode .ch1 < selected.params.nch ∧
      selected.sel = oneHot (physOf .ch1 selected.reverse) ∧
      selected.muxState = .selected ∧ selected.cache.get .ch1 ≠ .rtd2W ∧ selected.cache.get .ch1 = .rtd3W ∧
      (let s := pending 26
       s.seq = .start ∧ s.muxState = .switching ∧ s.familyActive .tc = true ∧
         s.sel = oneHot (physOf .ch1 s.reverse) ∧ (s.now - s.muxTs).toNat % 2 ^ s.params.tw < s.params.tSettleRtd ∧
         (s.now - s.muxTs).toNat % 2 ^ s.params.tw < s.params.tSettleTc ∧
         (100#32 - s.muxTs).toNat % 2 ^ s.params.tw < s.params.tSettleRtd ∧
         s.params.tSettleRtd ≤ (101#32 - s.muxTs).toNat % 2 ^ s.params.tw) ∧
      (let s := pending 25
       s.muxState = .switching ∧ s.params.tSettleRtd ≤ (s.now - s.muxTs).toNat % 2 ^ s.params.tw) := by decide

/-- A TC probe, and an RTD probe with a reprogram. -/
theorem witness_AsyncSelectStartsSwitch :
    ready.seq = .start ∧ familyOf .tcJ = some .tc ∧ ready.familyActive .tc = true ∧ familyOf .rtd2W = some .rtd ∧
      ready.familyActive .rtd = true ∧ channelCode .ch2 < ready.params.nch ∧
      oneHot (physOf .ch2 ready.reverse) ≠ ready.sel ∧ ready.params.tSettleTc ≠ 0 ∧ ready.params.tSettleRtd ≠ 0 ∧
      ready.curChannel ≠ some .ch2 := by decide

/-- Each clause of SwitchNeverEndsEarly: lines that change, an end with `OK` in the first step and in the step after an
RTD write, an asynchronous poll, a hold entered, and its end. -/
theorem witness_SwitchNeverEndsEarly :
    familyOf .rtd3W = some .rtd ∧ familyOf .tcK = some .tc ∧ channelCode .ch1 < ready.params.nch ∧
    (∃ t, SeqFits ready.params (.muxSelAsync (.known .ch0) (.known .tcK)) ready.seq = true ∧
      exec (.muxSelAsync (.known .ch0) (.known .tcK)) ready = .next t ∧ t.sel ≠ ready.sel) ∧
    (∃ t, exec (.muxSel (.known .ch1) (.known .rtd3W)) (pending 25) = .next t ∧ t.seq = .idle ∧ t.status.ok = true) ∧
    (∃ t, exec (.muxSelAsync (.known .ch1) (.known .tcK)) { pending 206 with now := 356 } = .next t ∧ t.seq = .idle ∧
      t.status.ok = true) ∧
    (∃ t, SeqFits ready.params (.muxSel (.known .ch1) (.known .rtd2W)) (.sent 1 0 false) = true ∧
      exec (.muxSel (.known .ch1) (.known .rtd2W)) { pending 25 with seq := .sent 1 0 false } = .next t ∧
      t.seq = .idle ∧ t.status.ok = true) ∧
    (∃ t, exec (.muxSel (.known .ch1) (.known .rtd3W)) (pending 26) = .next t ∧ t.seq = .hold 2 26 75 false ∧
      t.seq ≠ (pending 26).seq) ∧
    ∃ t, SeqFits ready.params (.muxSel (.known .ch1) (.known .rtd3W)) (.hold 2 25 75 false) = true ∧
      exec (.muxSel (.known .ch1) (.known .rtd3W)) { pending 25 with seq := .hold 2 25 75 false } = .next t ∧
      t.seq = .idle :=
  ⟨by decide, by decide, by decide, ⟨_, by decide, rfl, by decide⟩, ⟨_, rfl, by decide⟩, ⟨_, rfl, by decide⟩,
    ⟨_, by decide, rfl, by decide⟩, ⟨_, rfl, by decide⟩, _, by decide, rfl, by decide⟩

/-- A channel above 2, and one that a configuration with two channels does not have. -/
theorem witness_ChannelOutOfRangeIgnored :
    ready.seq = .start ∧ familyOf .tcK = some .tc ∧ ready.familyActive .tc = true ∧ familyOf .rtd2W = some .rtd ∧
      ready.familyActive .rtd = true ∧
      ({ ready with params := other } : State).params.nch ≤ channelCode .ch2 := by decide

/-- A chip present and absent, with and without the RTD sub-driver. -/
theorem witness_BeginTcCompletes :
    closed.seq = .start ∧ closed.tcActive = false ∧ closed.outCfg = closed.rtdActive ∧
      closed.miso 4 = [0x00, 0x40, 0x01, 0x00] ∧
      ({ closed with misoIn := [0x00, 0xFF, 0xFF, 0xFF] } : State).miso 4 = [0x00, 0xFF, 0xFF, 0xFF] ∧
      ({ ready with tcActive := false } : State).tcActive = false ∧
      ({ ready with tcActive := false } : State).outCfg = ({ ready with tcActive := false } : State).rtdActive := by
  decide

theorem witness_BeginRtdCompletes :
    closed.seq = .start ∧ closed.rtdActive = false ∧ ({ ready with rtdActive := false } : State).tcActive = true := by
  decide

/-- None, the TC or the RTD sub-driver active. -/
theorem witness_BeginBothCompletes :
    closed.seq = .start ∧ closed.outCfg = (closed.tcActive || closed.rtdActive) ∧
      closed.miso 4 = [0x00, 0x40, 0x01, 0x00] ∧ (closed.tcActive && closed.rtdActive) = false ∧
      (let s : State := { ready with rtdActive := false }
       s.outCfg = (s.tcActive || s.rtdActive) ∧ (s.tcActive && s.rtdActive) = false) ∧
      (let s : State := { ready with tcActive := false }
       s.outCfg = (s.tcActive || s.rtdActive) ∧ (s.tcActive && s.rtdActive) = false) := by decide

theorem witness_EndCommandsComplete :
    ready.seq = .start ∧ ready.outCfg = (ready.tcActive || ready.rtdActive) ∧ closed.seq = .start ∧
      closed.outCfg = (closed.tcActive || closed.rtdActive) := by decide

/-- A segment before the one that decides, and a value above every bound. -/
theorem witness_PolyEvalTakesFirstSegment :
    Fp.gt 0x00000000#32 0x3F800000#32 = false ∧ Fp.gt 0x40000000#32 0x3F800000#32 = true := by decide

/-- The full scale, 400.0, and the smallest subnormal reference. -/
theorem witness_ResistanceRoundedOnce :
    Params.default.rtdFull = 0x47000000#32 ∧ 32767 < 2 ^ 15 ∧ Fp.unpack 0x43C80000#32 = .fin false 0xC80000 (-15) ∧
      Fp.unpack 1#32 = .fin false 1 (-149) := by decide +kernel

/-- The references of PipelineCommandsComplete: 400.0 is finite and positive, -1.0 and infinity are not; each end of
`RTD_CALC_TEMP` is `test_rtdCalcTemp`'s and, for the negative discriminant, the smallest `R0`. -/
theorem witness_PipelineCommandsComplete :
    Fp.gt 0x43C80000#32 0x00000000#32 = true ∧ Fp.gt 0xBF800000#32 0x00000000#32 = false ∧
      Fp.isNaN (Params.default.rtdRes 8192 0x43C80000#32) = false ∧
      Fp.ge (Params.default.rtdDiscriminant (Params.default.rtdRes 8192 0x43C80000#32) 0x42C80000#32) 0#32 = true ∧
      Fp.ge (Params.default.rtdDiscriminant (Params.default.rtdRes 32767 0x43C80000#32) 0x3F800000#32) 0#32 = false ∧
      Fp.isNaN (Params.default.rtdRes 0 0x43C80000#32) = false ∧
      Fp.ge (Params.default.rtdQuadratic
        (Params.default.rtdDiscriminant (Params.default.rtdRes 0 0x43C80000#32) 0x42C80000#32)) 0#32 = false := by
  decide +kernel

theorem witness_DomainErrorsGiveNaN :
    Fp.isNaN 0x7F800001#32 = true ∧ Fp.isNaN 0xFFFFFFFF#32 = true ∧ Fp.sign 0x80000000#32 = true := by decide

/-- The smallest subnormal value, a tie rounded to even, and both sides of the midpoint above the largest value. -/
theorem witness_RoundIsNearest :
    (0 : Int) ≤ -149 + 149 + (0 : Nat) ∧ (Fp.round false 1 (-149)).scaled = some 1 ∧
      (0 : Int) ≤ -150 + 149 + (1 : Nat) ∧
      (Fp.round true 3 (-150)).scaled = some (-2) ∧ Fp.scaled 0x80000001#32 = some (-1) ∧
      ((-1 : Int) * 2 ^ 1 - -3).natAbs = ((-2 : Int) * 2 ^ 1 - -3).natAbs ∧
      (2 ^ 25 - 1) * 2 ^ (252 + 0) ≤ (2 ^ 25 - 1) * 2 ^ ((103 : Int) + 149 + (0 : Nat)).toNat ∧
      (2 ^ 24 - 1) * 2 ^ ((104 : Int) + 149 + (0 : Nat)).toNat < (2 ^ 25 - 1) * 2 ^ (252 + 0) := by decide +kernel

/-- A pattern of each clause. -/
theorem witness_RoundOfUnpack :
    Fp.unpack 0x80000000#32 = .fin true 0 (-149) ∧ Fp.unpack 0x7F7FFFFF#32 = .fin false 0xFFFFFF 104 ∧
      Fp.scaled 0x80000000#32 = some 0 ∧ Fp.scaled 0x00000001#32 = some 1 ∧ Fp.isNaN 0x7FC00000#32 = true := by decide

/-- R120's case: an infinity is not greater than itself. -/
theorem test_gt_infinity : Fp.gt 0x7F800000#32 0x7F800000#32 = false ∧ Fp.ge 0x7F800000#32 0x7F800000#32 = true := by
  decide

/-- A state in the middle of a command that meets the invariant. -/
def midway : State := { selected with cmd := 0x19000000, latch := ⟨0x19000000, 0, 0, 0⟩, seq := .hold 3 100 65 false }

theorem witness_Inv : midway.Inv where
  config := by decide +kernel
  times := by decide
  done_iff := by decide
  idle_iff := by decide
  latched := by decide
  fits := by
    intro i h _
    have : i = .rtdRead := by
      have h' : decode midway.latch.cmd = .ok .rtdRead := by decide
      rw [h'] at h
      exact (Except.ok.inj h).symm
    subst this
    decide
  unassigned := by
    intro e h
    have h' : decode midway.latch.cmd = .ok .rtdRead := by decide
    rw [h'] at h
    cases h
  mirror := by decide
  wire := by decide
  lines := ⟨false, by decide⟩
  outputs := by decide
  selecting := by decide
  holding := by
    intro c p fam h
    have h' : decode midway.latch.cmd = .ok .rtdRead := by decide
    rw [h'] at h
    cases h
  released := by decide
  chipSelects := by decide

/-- A blocking selection in its hold meets the invariant's clause about it. -/
theorem witness_holding :
    let s : State := { pending 50 with cmd := 0x30010500, latch := ⟨0x30010500, 0, 0, 0⟩, seq := .hold 2 50 75 false }
    decode s.latch.cmd = .ok (.muxSel (.known .ch1) (.known .rtd3W)) ∧ familyOf .rtd3W = some .rtd ∧
      s.seq = .hold 2 s.muxTs (s.params.settle .rtd) false ∧ s.muxState = .switching := by decide

/-- The hypotheses of EveryCommandCompletes; those of StepKeepsInvariant are `witness_Inv` and a step. -/
theorem witness_EveryCommandCompletes :
    midway.Inv ∧ midway.turns = [] ∧ midway.rst = false ∧ midway.status.busy = true ∧ ∃ t, step midway = .next t :=
  ⟨witness_Inv, by decide, by decide, by decide, _, rfl⟩

end Sys2Proof.Tests
end

section
open Sys2Proof Sys2Proof.Machine
namespace Sys2Proof.Machine

/-! ### `RTD_READ_FAULT`, one equation per fault cycle (41_rtd_engine.md R81)

The meaning matches on the cycle and the position at once; each of these matches on the position alone. -/

theorem execRtdReadFault_unknown (code : Byte) (s : State) :
    execRtdReadFault (.unknown code) s =
      match s.seq with
      | .start => .next (s.fail .arg)
      | _ => .fault .sequencerLost := by
  unfold execRtdReadFault
  cases s.seq <;> rfl

theorem execRtdReadFault_none (s : State) :
    execRtdReadFault (.known .none) s =
      match s.seq with
      | .start => ifRtdActive s (s.recv .rtd (s.params.readByteMosi s.params.rtdAddrFault) 3 false)
      | .sent 3 rx _ => .next (s.finishWith ((rxByte rx).setWidth 32))
      | _ => .fault .sequencerLost := by
  unfold execRtdReadFault
  rcases s.seq with _ | _ | ⟨_ | _ | _ | _ | label, rx, flag⟩ | ⟨label, t0, d, flag⟩ <;> rfl

theorem execRtdReadFault_auto (s : State) :
    execRtdReadFault (.known .auto) s =
      match s.seq with
      | .start => ifRtdActive s (s.faultWrite s.params.fltTrigAuto (.sent 1 0 false))
      | .sent 1 _ _ =>
        .next ((s.faultMirror s.params.fltTrigAuto).waitThen 2 s.params.tFaultAuto false
          ((s.faultMirror s.params.fltTrigAuto).recv .rtd (s.params.readByteMosi s.params.rtdAddrFault) 3 false))
      | .hold 2 t0 d _ =>
        whenElapsed t0 d s (s.recv .rtd (s.params.readByteMosi s.params.rtdAddrFault) 3 false)
      | .sent 3 rx _ => .next (s.finishWith ((rxByte rx).setWidth 32))
      | _ => .fault .sequencerLost := by
  unfold execRtdReadFault
  rcases s.seq with _ | _ | ⟨_ | _ | _ | _ | label, rx, flag⟩ | ⟨_ | _ | _ | label, t0, d, flag⟩ <;> rfl

theorem execRtdReadFault_manualRun (s : State) :
    execRtdReadFault (.known .manualRun) s =
      match s.seq with
      | .start => ifRtdActive s (s.faultWrite s.params.fltTrigManualRun (.sent 1 0 false))
      | .sent 1 _ _ => .next ((s.faultMirror s.params.fltTrigManualRun).finishWith 0)
      | _ => .fault .sequencerLost := by
  unfold execRtdReadFault
  rcases s.seq with _ | _ | ⟨_ | _ | label, rx, flag⟩ | ⟨label, t0, d, flag⟩ <;> rfl

theorem execRtdReadFault_manualFinish (s : State) :
    execRtdReadFault (.known .manualFinish) s =
      match s.seq with
      | .start => ifRtdActive s (s.faultWrite s.params.fltTrigManualFinish (.sent 1 0 false))
      | .sent 1 _ _ => .next ((s.faultMirror s.params.fltTrigManualFinish).finishWith 0)
      | _ => .fault .sequencerLost := by
  unfold execRtdReadFault
  rcases s.seq with _ | _ | ⟨_ | _ | label, rx, flag⟩ | ⟨label, t0, d, flag⟩ <;> rfl

end Sys2Proof.Machine
end

section
open Sys2Proof Sys2Proof.Machine
namespace Sys2Proof.Machine

/-! ### The engine's turn (00_scope.md R12) -/

/-- While a command executes outside reset, the engine's turn is its meaning (00_scope.md R12). -/
theorem engineTurn_of_decode {s : State} {i : Instr} (hrst : s.rst = false) (hbusy : s.status.busy = true)
    (hdec : decode s.latch.cmd = .ok i) : engineTurn s = exec i s := by
  simp [engineTurn, State.fetchWord, hrst, hbusy, hdec]

/-- With a script, a step is the turn of the script's first agent. -/
theorem step_of_turns_cons {s : State} {turn : Turn} {ts : List Turn} (h : s.turns = turn :: ts) :
    step s = takeTurn turn { s with turns := ts } := by
  simp [step, h]

/-- Without one, it is the default turn. -/
theorem step_of_turns_nil {s : State} (h : s.turns = []) : step s = takeTurn s.defaultTurn s := by
  simp [step, h]

/-- Settles O6: with either script the turn is the engine's, which runs the decoded command. -/
theorem stepRunsDecodedCommand : Obligations.StepRunsDecodedCommand := by
  intro s i hrst hbusy hdec
  constructor
  · intro ts hturns
    rw [step_of_turns_cons hturns]
    exact engineTurn_of_decode hrst hbusy hdec
  · intro hturns hready
    have hturn : s.defaultTurn = .engine := by simp [State.defaultTurn, hready]
    rw [step_of_turns_nil hturns, hturn]
    exact engineTurn_of_decode hrst hbusy hdec

/-! ### One transaction (R10) -/

/-- A transaction writes nothing but the pins, the chips' answers and the trace (R10). -/
theorem State.spiXfer_eq (chip : Chip) (s : State) (mosi : List Byte) :
    s.spiXfer chip mosi =
      { s with
        csRtd := (s.spiXfer chip mosi).csRtd, csTc := (s.spiXfer chip mosi).csTc
        sclk := (s.spiXfer chip mosi).sclk
        mosi := (s.spiXfer chip mosi).mosi, misoIn := s.misoIn.drop mosi.length
        freeCount := s.freeCount + mosi.length, trace := (s.spiXfer chip mosi).trace } := by
  cases chip <;> rfl

/-- Settles O22, from what a transaction leaves in each field. -/
theorem spiTransaction : Obligations.SpiTransaction := by
  refine ⟨fun s mosi => ?_, fun chip s mosi => ⟨?_, s.spiXfer_eq chip mosi⟩, fun s bytes rest => ?_⟩
  · simp [Params.spiEvents, Params.sclkHz, Params.spiMode, csPin]
  · cases chip <;> rw [State.spiXfer_sclk] <;> rfl
  · exact misoBytes_append bytes rest s.freeCount

/-! ### Waits (R9) -/

/-- From a wait of its body a command waits on or goes on to another position. -/
theorem exec_hold {i : Instr} {s : State} {label d : Nat} {t0 : Word} {flag : Bool}
    (hseq : s.seq = .hold label t0 d flag) (hfits : SeqFits s.params i s.seq = true) :
    ∃ go, exec i s = whenElapsed t0 d s go ∧ go.seq ≠ s.seq := by
  have hlabel : label ∈ holdPoints i := by simp_all [SeqFits]
  unfold holdPoints at hlabel
  split at hlabel
  case h_1 en =>
    obtain rfl : label = 2 := by simpa using hlabel
    exact ⟨s.finish true, by simp [exec, execRtdSetAuto, hseq], by simp [hseq]⟩
  case h_2 =>
    obtain rfl : label = 2 := by simpa using hlabel
    exact ⟨s.recv .rtd (s.params.readByteMosi s.params.rtdAddrFault) 3 false,
      by simp [exec, execRtdReadFault_auto, hseq], by simp [hseq]⟩
  case h_3 =>
    obtain rfl | rfl : label = 2 ∨ label = 3 := by simpa using hlabel
    · exact ⟨s.cfgWrite s.params.cfgOneshot (.sent 3 0 flag), by simp [exec, execRtdRead, hseq], by simp [hseq]⟩
    · exact ⟨s.readSample 4 flag, by simp [exec, execRtdRead, hseq], by simp [State.readSample, hseq]⟩
  case h_4 ch p =>
    obtain rfl : label = 2 := by simpa using hlabel
    exact ⟨({ s with muxState := .selected } : State).finish true,
      by simp [exec, execMuxSel, hseq], by simp [hseq]⟩
  case h_5 => simp at hlabel

/-- Settles O21: at every hold point the step is `whenElapsed`, with a next state that has left the wait. -/
theorem waitHolds : Obligations.WaitHolds := by
  intro i s label d t0 flag hseq hfits
  obtain ⟨go, hexec, hgo⟩ := exec_hold hseq hfits
  rw [hexec]
  exact ⟨whenElapsed_of_lt, fun h => ⟨go, whenElapsed_of_le h, hgo⟩⟩

end Sys2Proof.Machine
end

section
open Sys2Proof Sys2Proof.Machine
namespace Sys2Proof.Machine

/-! ### The bits of the mirror (10_state.md R23, R24) -/

/-- Writing the bits of a mask leaves every bit outside it. -/
theorem putBits_and_of_disjoint {b m w : Byte} (on : Bool) (h : m &&& w = 0#8) : putBits b m on &&& w = b &&& w := by
  ext i hi
  have hbit := congrArg (BitVec.getLsbD · i) h
  cases on <;> simp [putBits, hi] at hbit ⊢ <;> grind

/-- Whether a mask's bits are set, after writing them. -/
theorem hasBits_putBits_self (b : Byte) {m : Byte} (on : Bool) (h : m ≠ 0#8) : hasBits (putBits b m on) m = on := by
  cases on
  · simp [hasBits, putBits, BitVec.and_assoc]
  · have : (b ||| m) &&& m = m := by ext i; simp; grind
    simp [hasBits, putBits, this, h]

theorem hasBits_putBits_of_disjoint {b m w : Byte} (on : Bool) (h : m &&& w = 0#8) :
    hasBits (putBits b m on) w = hasBits b w := by
  simp [hasBits, putBits_and_of_disjoint on h]

/-- The persistent bits are those of the four flags (41_rtd_engine.md R69). -/
theorem Params.cfgPersist_masks (c : Params) :
    c.cfgBias &&& ~~~c.cfgPersist = 0#8 ∧ c.cfgAuto &&& ~~~c.cfgPersist = 0#8 ∧
      c.cfgWire3 &&& ~~~c.cfgPersist = 0#8 ∧ c.cfgFilter50 &&& ~~~c.cfgPersist = 0#8 := by
  refine ⟨?_, ?_, ?_, ?_⟩ <;> ext i <;> simp [Params.cfgPersist] <;> grind

/-- No persistent bit but the wire bit itself is the wire bit. -/
theorem Params.wire_disjoint {c : Params} (h : c.wf = true) :
    c.cfgWire3 ≠ 0#8 ∧ c.cfgBias &&& c.cfgWire3 = 0#8 ∧ c.cfgAuto &&& c.cfgWire3 = 0#8 ∧
      c.cfgFilter50 &&& c.cfgWire3 = 0#8 := by
  simp only [Params.wf, Bool.and_eq_true, decide_eq_true_eq] at h
  obtain ⟨⟨⟨⟨-, -, -, hne, -⟩, -, hbias, -, hauto, -, hfilter⟩, -⟩, -⟩ := h
  exact ⟨hne, hbias, hauto, by rw [BitVec.and_comm]; exact hfilter⟩

/-- No fault-cycle trigger has the wire bit. -/
theorem Params.wire_triggers {c : Params} (h : c.wf = true) :
    c.cfgWire3 &&& c.fltTrigAuto = 0#8 ∧ c.cfgWire3 &&& c.fltTrigManualRun = 0#8 ∧
      c.cfgWire3 &&& c.fltTrigManualFinish = 0#8 := by
  simp only [Params.wf, Bool.and_eq_true, decide_eq_true_eq] at h
  exact h.2

theorem Params.faultByte_wire {c : Params} (h : c.wf = true) (cfg trig : Byte)
    (htrig : c.cfgWire3 &&& trig = 0#8) :
    c.faultByte cfg trig &&& c.cfgPersist &&& c.cfgWire3 = cfg &&& c.cfgWire3 := by
  simp only [Params.wf, Bool.and_eq_true, decide_eq_true_eq] at h
  obtain ⟨⟨-, hkeep⟩, -⟩ := h
  ext i hi
  have hk := congrArg (BitVec.getLsbD · i) hkeep
  have ht := congrArg (BitVec.getLsbD · i) htrig
  simp [Params.faultByte, Params.cfgPersist, hi] at hk ht ⊢
  grind

end Sys2Proof.Machine
end

section
open Sys2Proof Sys2Proof.Machine
namespace Sys2Proof.Machine

/-! ### What an engine step can do -/

/-- The state that belongs to the host, the inputs, the latch, the configuration and the script. -/
def State.outside (s : State) :
    Params × (Word × Word × Word × Word) × Latch × (Word × Bool × Bool) × Option Word × List Turn :=
  (s.params, (s.cmd, s.arg0, s.arg1, s.arg2), s.latch, (s.now, s.reverse, s.rst), s.hostData, s.turns)

/-- The state of the activation flags and the multiplexer. -/
def State.muxPart (s : State) :
    (Bool × Bool × Bool) × Option Channel × Cache × (BitVec 3 × Bool) × MuxState × Word :=
  ((s.tcActive, s.rtdActive, s.outCfg), s.curChannel, s.cache, (s.sel, s.route), s.muxState, s.muxTs)

/-- The clauses of the invariant about single registers: the timestamps, the mirror and the chip selects. -/
structure State.RegsOk (s : State) : Prop where
  times : s.now.toNat < 2 ^ s.params.tw ∧ s.muxTs.toNat < 2 ^ s.params.tw ∧ s.rtdTs.toNat < 2 ^ s.params.tw
  mirror : s.cfg &&& ~~~s.params.cfgPersist = 0#8
  wire : s.wire3 = decide (s.rtdProbe = .rtd3W)
  chipSelects : s.csRtd ≠ .low ∧ s.csTc ≠ .low

/-- Whether a command closes a sub-driver (44_lifecycle.md R116 to R118). -/
def closes : Instr → Bool
  | .endTc => true
  | .endRtd => true
  | .endBoth => true
  | _ => false

/-- The commands that write the activation flags or the multiplexer. -/
def movesMux (i : Instr) : Bool := selects i || opens i || closes i

theorem selects_opens_of_not_movesMux {i : Instr} (h : movesMux i = false) : selects i = false ∧ opens i = false := by
  simp only [movesMux, Bool.or_eq_false_iff] at h
  exact h.1

/-- `u` is `s` after writes of registers and pins that a body of `i` makes, with no transaction. -/
structure Writes (i : Instr) (s u : State) : Prop where
  outside : u.outside = s.outside
  status : u.status = s.status
  trace : ∃ es, u.trace = s.trace ++ es ∧ spiCount es = 0
  regs : s.params.wf = true → s.RegsOk → u.RegsOk
  mux : movesMux i = false → u.muxPart = s.muxPart

section
variable {i : Instr} {s u v : State}

theorem trace_grows_of_eq (h : u.trace = s.trace) : ∃ es, u.trace = s.trace ++ es ∧ spiCount es = 0 :=
  ⟨[], by rw [h, List.append_nil], rfl⟩

theorem Writes.params (h : Writes i s u) : u.params = s.params := congrArg Prod.fst h.outside

theorem Writes.refl (i : Instr) (s : State) : Writes i s s :=
  ⟨rfl, rfl, trace_grows_of_eq rfl, fun _ h => h, fun _ => rfl⟩

theorem Writes.trans (h : Writes i s u) (h' : Writes i u v) : Writes i s v where
  outside := h'.outside.trans h.outside
  status := h'.status.trans h.status
  trace := by
    obtain ⟨es, htrace, hcount⟩ := h.trace
    obtain ⟨es', htrace', hcount'⟩ := h'.trace
    exact ⟨es ++ es', by simp [htrace, htrace'], by simp [hcount, hcount']⟩
  regs hwf hs := h'.regs (h.params ▸ hwf) (h.regs hwf hs)
  mux hi := (h'.mux hi).trans (h.mux hi)

/-- Writing registers about which `RegsOk` says nothing, outside the multiplexer. -/
theorem Writes.of_free
    (h : u = { s with
      rtdState := u.rtdState, rtdAsyncBiasWasOn := u.rtdAsyncBiasWasOn, tcProbe := u.tcProbe, tcMask := u.tcMask
      tcOffset := u.tcOffset, tcLastFault := u.tcLastFault }) : Writes i s u := by
  rw [h]
  exact ⟨rfl, rfl, trace_grows_of_eq rfl, fun _ hs => ⟨hs.times, hs.mirror, hs.wire, hs.chipSelects⟩, fun _ => rfl⟩

/-- Writing registers about which `RegsOk` says nothing, and pins, by a command of the multiplexer. -/
theorem Writes.of_mux (hi : movesMux i = true)
    (h : u = { s with
      tcActive := u.tcActive, rtdActive := u.rtdActive, outCfg := u.outCfg, curChannel := u.curChannel
      cache := u.cache, sel := u.sel, route := u.route, muxState := u.muxState, muxTs := u.muxTs
      rtdState := u.rtdState, tcProbe := u.tcProbe, trace := u.trace })
    (hts : u.muxTs = s.muxTs ∨ u.muxTs = s.now ∨ u.muxTs = 0#32)
    (htrace : ∃ es, u.trace = s.trace ++ es ∧ spiCount es = 0) : Writes i s u where
  outside := by rw [h]; rfl
  status := by rw [h]
  trace := htrace
  mux hmux := by simp [hi] at hmux
  regs _ hs := by
    have hparams : u.params = s.params := by rw [h]
    have hnow : u.now = s.now := by rw [h]
    have hrtdTs : u.rtdTs = s.rtdTs := by rw [h]
    obtain ⟨hn, hm, hr⟩ := hs.times
    refine ⟨⟨by rw [hnow, hparams]; exact hn, ?_, by rw [hrtdTs, hparams]; exact hr⟩, ?_, ?_, ?_⟩
    · rw [hparams]
      obtain h0 | h0 | h0 := hts <;> rw [h0]
      · exact hm
      · exact hn
      · exact Nat.two_pow_pos _
    all_goals rw [h]
    · exact hs.mirror
    · exact hs.wire
    · exact hs.chipSelects

/-- Writing the mirror and the recorded RTD probe. -/
theorem Writes.of_cfg
    (h : u = { s with cfg := u.cfg, rtdProbe := u.rtdProbe })
    (hcfg : s.params.wf = true → s.RegsOk →
      u.cfg &&& ~~~s.params.cfgPersist = 0#8 ∧ hasBits u.cfg s.params.cfgWire3 = decide (u.rtdProbe = .rtd3W)) :
    Writes i s u where
  outside := by rw [h]; rfl
  status := by rw [h]
  trace := trace_grows_of_eq (by rw [h])
  mux _ := by rw [h]; rfl
  regs hwf hs := by
    obtain ⟨hmirror, hwire⟩ := hcfg hwf hs
    have hparams : u.params = s.params := by rw [h]
    refine ⟨by rw [h]; exact hs.times, by rw [hparams]; exact hmirror, ?_, by rw [h]; exact hs.chipSelects⟩
    rw [State.wire3, hparams, hwire]

/-- Writing the bit of a flag other than the wire flag. -/
theorem Writes.of_putBits {mask : Byte} {on : Bool} (h : u = { s with cfg := putBits s.cfg mask on })
    (hp : mask &&& ~~~s.params.cfgPersist = 0#8)
    (hw : s.params.wf = true → mask &&& s.params.cfgWire3 = 0#8) : Writes i s u := by
  subst h
  refine .of_cfg rfl fun hwf hs => ⟨?_, ?_⟩
  · exact (putBits_and_of_disjoint on hp).trans hs.mirror
  · exact (hasBits_putBits_of_disjoint on (hw hwf)).trans hs.wire

theorem writes_setBias (on : Bool) : Writes i s (s.setBias on) :=
  .of_putBits rfl s.params.cfgPersist_masks.1 fun h => (Params.wire_disjoint h).2.1

theorem writes_setAuto (on : Bool) : Writes i s (s.setAuto on) :=
  .of_putBits rfl s.params.cfgPersist_masks.2.1 fun h => (Params.wire_disjoint h).2.2.1

theorem writes_setFilter50 (on : Bool) : Writes i s (s.setFilter50 on) :=
  .of_putBits rfl s.params.cfgPersist_masks.2.2.2 fun h => (Params.wire_disjoint h).2.2.2

theorem writes_rtdType (p : ProbeType) : Writes i s (s.rtdType p) := by
  refine .of_cfg rfl fun hwf hs => ⟨?_, ?_⟩
  · exact (putBits_and_of_disjoint _ s.params.cfgPersist_masks.2.2.1).trans hs.mirror
  · exact hasBits_putBits_self _ _ (Params.wire_disjoint hwf).1

/-- The mirror after a fault cycle whose trigger has no wire bit (R70, R81). -/
theorem writes_faultMirror {trig : Byte} (htrig : s.params.wf = true → s.params.cfgWire3 &&& trig = 0#8) :
    Writes i s (s.faultMirror trig) := by
  refine .of_cfg rfl fun hwf hs => ⟨?_, ?_⟩
  · simp [State.faultMirror, BitVec.and_assoc]
  · rw [State.faultMirror, hasBits, Params.faultByte_wire hwf _ _ (htrig hwf)]
    exact hs.wire

theorem writes_rtdState (phase : RtdState) : Writes i s { s with rtdState := phase } := .of_free rfl

theorem writes_rtdAsyncBiasWasOn (on : Bool) : Writes i s { s with rtdAsyncBiasWasOn := on } := .of_free rfl

/-- Taking the time of the non-blocking machine (R84). -/
theorem writes_rtdTs_now (phase : RtdState) : Writes i s { s with rtdTs := s.now, rtdState := phase } where
  outside := rfl
  status := rfl
  trace := trace_grows_of_eq rfl
  mux _ := rfl
  regs _ hs := ⟨⟨hs.times.1, hs.times.2.1, hs.times.1⟩, hs.mirror, hs.wire, hs.chipSelects⟩

/-- The reset of the non-blocking machine (44_lifecycle.md R114). -/
theorem writes_rtdOpened (hi : movesMux i = true) : Writes i s s.rtdOpened where
  outside := rfl
  status := rfl
  trace := trace_grows_of_eq rfl
  mux h := by simp [hi] at h
  regs _ hs := ⟨⟨hs.times.1, hs.times.2.1, Nat.two_pow_pos _⟩, hs.mirror, hs.wire, hs.chipSelects⟩

/-- The reset of the mirror (R114). -/
theorem writes_clearCfg : Writes i s { s with cfg := 0x00#8, rtdProbe := .none } :=
  .of_cfg rfl fun _ _ => ⟨by simp, by simp [hasBits]⟩

theorem writes_setCs (chip : Chip) {l : Level} (hl : l ≠ .low) : Writes i s (s.setCs chip l) where
  outside := by cases chip <;> rfl
  status := by simp
  trace := ⟨_, s.setCs_trace chip l, rfl⟩
  mux _ := by cases chip <;> rfl
  regs _ hs := by
    cases chip
    · exact ⟨hs.times, hs.mirror, hs.wire, hl, hs.chipSelects.2⟩
    · exact ⟨hs.times, hs.mirror, hs.wire, hs.chipSelects.1, hl⟩

theorem writes_clearMux (hi : movesMux i = true) (on : Bool) : Writes i s (s.clearMux on) :=
  .of_mux hi rfl (.inr (.inr rfl)) ⟨_, s.clearMux_trace on, rfl⟩

theorem writes_acquire (hi : movesMux i = true) : Writes i s s.acquire := by
  rw [State.acquire_eq]
  split
  · exact .refl i s
  · exact writes_clearMux hi true

theorem writes_release (hi : movesMux i = true) : Writes i s s.release := by
  rw [State.release_eq]
  split
  · exact .refl i s
  · exact writes_clearMux hi false

theorem writes_active (hi : movesMux i = true) (tc rtd : Bool) :
    Writes i s { s with tcActive := tc, rtdActive := rtd } :=
  .of_mux hi rfl (.inl rfl) (trace_grows_of_eq rfl)

theorem writes_muxSelected (hi : movesMux i = true) : Writes i s { s with muxState := .selected } :=
  .of_mux hi rfl (.inl rfl) (trace_grows_of_eq rfl)

theorem writes_cacheProbe (hi : movesMux i = true) (ch : Channel) (p : ProbeType) :
    Writes i s (s.cacheProbe ch p) :=
  .of_mux hi rfl (.inl rfl) (trace_grows_of_eq rfl)

theorem writes_setRoute (hi : movesMux i = true) (fam : Family) : Writes i s (s.setRoute fam) :=
  .of_mux hi rfl (.inl rfl) ⟨_, s.setRoute_trace fam, rfl⟩

theorem writes_selectLines (hi : movesMux i = true) (ch : Channel) (rev : Bool) :
    Writes i s (s.selectLines ch rev) := by
  refine .of_mux hi rfl ?_ ⟨_, rfl, rfl⟩
  rw [State.selectLines_eq]
  dsimp only
  split <;> simp

end

/-- What one engine step of `i` answers: it stays in a wait, fails, completes, makes one transaction, or enters a
wait, after writes of its own; or its position is none of the body's. -/
inductive Stepped (i : Instr) (s : State) : Outcome → Prop
  | stay : Stepped i s (.next s)
  | fail (e : CmdError) : Stepped i s (.next (s.fail e))
  | finish {u : State} (h : Writes i s u) (ok : Bool) : Stepped i s (.next (u.finish ok))
  | finishWith {u : State} (h : Writes i s u) (v : Word) : Stepped i s (.next (u.finishWith v))
  | send {u : State} {chip : Chip} {mosi : List Byte} {label : Nat} {rx : Word} {flag : Bool} (h : Writes i s u)
      (hlabel : label ∈ sentPoints i) : Stepped i s (.next (u.send chip mosi (.sent label rx flag)))
  | hold {u : State} {label d : Nat} {t0 : Word} {flag : Bool} (h : Writes i s u) (hlabel : label ∈ holdPoints i)
      (hd : d ≤ s.params.longestWait) : Stepped i s (.next { u with seq := .hold label t0 d flag })
  | lost (h : SeqFits s.params i s.seq = false) : Stepped i s (.fault .sequencerLost)

section
variable {i : Instr} {s : State}

theorem Stepped.ifRtdActive {go : State} (h : Stepped i s (.next go)) : Stepped i s (ifRtdActive s go) := by
  unfold Machine.ifRtdActive
  split
  · exact h
  · exact .fail .inactive

theorem Stepped.whenElapsed {t0 : Word} {d : Nat} {go : State} (h : Stepped i s (.next go)) :
    Stepped i s (whenElapsed t0 d s go) := by
  unfold Machine.whenElapsed
  split
  · exact h
  · exact .stay

theorem Stepped.waitThen {u go : State} {label d : Nat} {flag : Bool} (h : Stepped i s (.next go))
    (hu : Writes i s u) (hlabel : label ∈ holdPoints i) (hd : d ≤ s.params.longestWait) :
    Stepped i s (.next (u.waitThen label d flag go)) := by
  unfold State.waitThen
  split
  · exact h
  · exact .hold hu hlabel hd

end

/-- A position that is neither the start nor one of the listed points is none of the body's. -/
theorem seqFits_eq_false {c : Params} {i : Instr} {pos : SeqPos} (hstart : pos ≠ .start)
    (hsent : ∀ label ∈ sentPoints i, ∀ rx flag, pos ≠ .sent label rx flag)
    (hhold : ∀ label ∈ holdPoints i, ∀ t0 d flag, pos ≠ .hold label t0 d flag) : SeqFits c i pos = false := by
  cases pos with
  | idle => rfl
  | start => exact absurd rfl hstart
  | sent label rx flag =>
    have hnot : label ∉ sentPoints i := fun hmem => hsent label hmem rx flag rfl
    simp [SeqFits, hnot]
  | hold label t0 d flag =>
    have hnot : label ∉ holdPoints i := fun hmem => hhold label hmem t0 d flag rfl
    simp [SeqFits, hnot]

theorem stepped_lost {i : Instr} {s : State} (hstart : s.seq ≠ .start)
    (hsent : ∀ label ∈ sentPoints i, ∀ rx flag, s.seq ≠ .sent label rx flag)
    (hhold : ∀ label ∈ holdPoints i, ∀ t0 d flag, s.seq ≠ .hold label t0 d flag) :
    Stepped i s (.fault .sequencerLost) :=
  .lost (seqFits_eq_false hstart hsent hhold)

/-! ### Each command's step: transport (40_bus_transport.md) -/

theorem execNop_stepped (s : State) : Stepped .nop s (execNop s) := by
  unfold execNop
  split
  · exact .finish (.refl _ s) true
  · apply stepped_lost <;> simp_all [sentPoints, holdPoints]

theorem execSpiRd8_stepped (chip : Chip) (addr : Byte) (s : State) :
    Stepped (.spiRd8 chip addr) s (execSpiRd8 chip addr s) := by
  unfold execSpiRd8
  split
  · split
    · exact .send (.refl _ s) (by simp [sentPoints])
    · exact .fail .inactive
  · exact .finishWith (.refl _ s) _
  · apply stepped_lost <;> simp_all [sentPoints, holdPoints]

theorem execSpiRd16_stepped (chip : Chip) (addr : Byte) (s : State) :
    Stepped (.spiRd16 chip addr) s (execSpiRd16 chip addr s) := by
  unfold execSpiRd16
  split
  · split
    · exact .send (.refl _ s) (by simp [sentPoints])
    · exact .fail .inactive
  · exact .finishWith (.refl _ s) _
  · apply stepped_lost <;> simp_all [sentPoints, holdPoints]

theorem execSpiWr8_stepped (chip : Chip) (addr value : Byte) (s : State) :
    Stepped (.spiWr8 chip addr value) s (execSpiWr8 chip addr value s) := by
  unfold execSpiWr8
  split
  · split
    · exact .send (.refl _ s) (by simp [sentPoints])
    · exact .fail .inactive
  · exact .finish (.refl _ s) true
  · apply stepped_lost <;> simp_all [sentPoints, holdPoints]

theorem execTcRd32_stepped (s : State) : Stepped .tcRd32 s (execTcRd32 s) := by
  unfold execTcRd32
  split
  · split
    · exact .send (.refl _ s) (by simp [sentPoints])
    · exact .fail .inactive
  · exact .finishWith (.refl _ s) _
  · apply stepped_lost <;> simp_all [sentPoints, holdPoints]

/-! ### Each command's step: the RTD engine (41_rtd_engine.md) -/

theorem execRtdSetType_stepped (probe : Coded ProbeType) (s : State) :
    Stepped (.rtdSetType probe) s (execRtdSetType probe s) := by
  unfold execRtdSetType
  split
  · split
    · exact .fail .arg
    · exact .ifRtdActive (.send (writes_rtdType _) (by simp [sentPoints]))
  · exact .finish (.refl _ s) true
  · cases probe <;> apply stepped_lost <;> simp_all [sentPoints, holdPoints]

theorem execRtdSetThresh_stepped (s : State) : Stepped .rtdSetThresh s (execRtdSetThresh s) := by
  unfold execRtdSetThresh
  split
  · exact .ifRtdActive (.send (.refl _ s) (by decide))
  · exact .send (.refl _ s) (by decide)
  · exact .send (.refl _ s) (by decide)
  · exact .send (.refl _ s) (by decide)
  · exact .finish (.refl _ s) true
  · apply stepped_lost <;> simp_all [sentPoints, holdPoints]

theorem execRtdGetLower_stepped (s : State) : Stepped .rtdGetLower s (execRtdGetLower s) := by
  unfold execRtdGetLower
  split
  · exact .ifRtdActive (.send (.refl _ s) (by decide))
  · exact .finishWith (.refl _ s) _
  · apply stepped_lost <;> simp_all [sentPoints, holdPoints]

theorem execRtdGetUpper_stepped (s : State) : Stepped .rtdGetUpper s (execRtdGetUpper s) := by
  unfold execRtdGetUpper
  split
  · exact .ifRtdActive (.send (.refl _ s) (by decide))
  · exact .finishWith (.refl _ s) _
  · apply stepped_lost <;> simp_all [sentPoints, holdPoints]

theorem execRtdSetAuto_stepped (en : Bool) (s : State) : Stepped (.rtdSetAuto en) s (execRtdSetAuto en s) := by
  unfold execRtdSetAuto
  split
  · exact .ifRtdActive (.send (writes_setAuto en) (by simp [sentPoints]))
  · split
    · exact .waitThen (.finish (.refl _ s) true) (.refl _ s) (by simp [holdPoints]) s.autoTime_le_longestWait
    · exact .finish (.refl _ s) true
  · exact .whenElapsed (.finish (.refl _ s) true)
  · apply stepped_lost <;> simp_all [sentPoints, holdPoints]

theorem execRtdSet50Hz_stepped (en : Bool) (s : State) : Stepped (.rtdSet50Hz en) s (execRtdSet50Hz en s) := by
  unfold execRtdSet50Hz
  split
  · exact .ifRtdActive (.send (writes_setFilter50 en) (by simp [sentPoints]))
  · exact .finish (.refl _ s) true
  · apply stepped_lost <;> simp_all [sentPoints, holdPoints]

theorem execRtdSetBias_stepped (en : Bool) (s : State) : Stepped (.rtdSetBias en) s (execRtdSetBias en s) := by
  unfold execRtdSetBias
  split
  · exact .ifRtdActive (.send (writes_setBias en) (by simp [sentPoints]))
  · exact .finish (.refl _ s) true
  · apply stepped_lost <;> simp_all [sentPoints, holdPoints]

theorem execRtdReadFault_stepped (cycle : Coded FaultCycle) (s : State) :
    Stepped (.rtdReadFault cycle) s (execRtdReadFault cycle s) := by
  match cycle with
  | .unknown code =>
    rw [execRtdReadFault_unknown]
    split
    · exact .fail .arg
    · apply stepped_lost <;> simp_all [sentPoints, holdPoints]
  | .known .none =>
    rw [execRtdReadFault_none]
    split
    · exact .ifRtdActive (.send (.refl _ s) (by decide))
    · exact .finishWith (.refl _ s) _
    · apply stepped_lost <;> simp_all [sentPoints, holdPoints]
  | .known .auto =>
    have hmirror : Writes (.rtdReadFault (.known .auto)) s (s.faultMirror s.params.fltTrigAuto) :=
      writes_faultMirror fun h => (Params.wire_triggers h).1
    rw [execRtdReadFault_auto]
    split
    · exact .ifRtdActive (.send (.refl _ s) (by decide))
    · exact .waitThen (.send hmirror (by decide)) hmirror (by decide) s.params.tFaultAuto_le_longestWait
    · exact .whenElapsed (.send (.refl _ s) (by decide))
    · exact .finishWith (.refl _ s) _
    · apply stepped_lost <;> simp_all [sentPoints, holdPoints]
  | .known .manualRun =>
    rw [execRtdReadFault_manualRun]
    split
    · exact .ifRtdActive (.send (.refl _ s) (by decide))
    · exact .finishWith (writes_faultMirror fun h => (Params.wire_triggers h).2.1) _
    · apply stepped_lost <;> simp_all [sentPoints, holdPoints]
  | .known .manualFinish =>
    rw [execRtdReadFault_manualFinish]
    split
    · exact .ifRtdActive (.send (.refl _ s) (by decide))
    · exact .finishWith (writes_faultMirror fun h => (Params.wire_triggers h).2.2) _
    · apply stepped_lost <;> simp_all [sentPoints, holdPoints]

theorem execRtdClearFault_stepped (s : State) : Stepped .rtdClearFault s (execRtdClearFault s) := by
  unfold execRtdClearFault
  split
  · exact .ifRtdActive (.send (.refl _ s) (by decide))
  · exact .finish (.refl _ s) true
  · apply stepped_lost <;> simp_all [sentPoints, holdPoints]

theorem execRtdRead_stepped (s : State) : Stepped .rtdRead s (execRtdRead s) := by
  unfold execRtdRead
  split
  · exact .ifRtdActive (.send (.refl _ s) (by decide))
  · split_ifs
    · exact .send (.refl _ s) (by decide)
    · exact .send (.refl _ s) (by decide)
    · exact .send (writes_setBias true) (by decide)
  · exact .waitThen (.send (.refl _ s) (by decide)) (.refl _ s) (by decide) s.params.tBias_le_longestWait
  · exact .whenElapsed (.send (.refl _ s) (by decide))
  · exact .waitThen (.send (.refl _ s) (by decide)) (.refl _ s) (by decide) s.convTime_le_longestWait
  · exact .whenElapsed (.send (.refl _ s) (by decide))
  · split_ifs
    · exact .finishWith (.refl _ s) _
    · exact .send (writes_setBias false) (by decide)
  · exact .finishWith (.refl _ s) _
  · apply stepped_lost <;> simp_all [sentPoints, holdPoints]

theorem execRtdReadAsync_stepped (s : State) : Stepped .rtdReadAsync s (execRtdReadAsync s) := by
  unfold execRtdReadAsync
  split
  · split
    · split
      · exact .send (.refl _ s) (by decide)
      · split
        · exact .send (.refl _ s) (by decide)
        · exact .finish (.refl _ s) false
      · split
        · exact .send (.refl _ s) (by decide)
        · exact .finish (.refl _ s) false
    · exact .fail .inactive
  · split_ifs
    · exact .finish ((writes_rtdAsyncBiasWasOn true).trans (writes_rtdTs_now .settling)) false
    · exact .send ((writes_rtdAsyncBiasWasOn false).trans (writes_setBias true)) (by decide)
  · exact .finish (writes_rtdTs_now .settling) false
  · exact .finish (writes_rtdTs_now .converting) false
  · split_ifs
    · exact .send (writes_setBias false) (by decide)
    · exact .finishWith (writes_rtdState .idle) _
  · exact .finishWith (writes_rtdState .idle) _
  · apply stepped_lost <;> simp_all [sentPoints, holdPoints]

/-! ### Each command's step: the TC engine (42_tc_engine.md) -/

theorem execTcSetType_stepped (probe : Coded ProbeType) (s : State) :
    Stepped (.tcSetType probe) s (execTcSetType probe s) := by
  unfold execTcSetType
  split
  · split
    · exact .fail .arg
    · exact .finish (.of_free rfl) true
  · apply stepped_lost <;> simp_all [sentPoints, holdPoints]

theorem execTcSetFaultMask_stepped (mask : BitVec 4) (s : State) :
    Stepped (.tcSetFaultMask mask) s (execTcSetFaultMask mask s) := by
  unfold execTcSetFaultMask
  split
  · exact .finish (.of_free rfl) true
  · apply stepped_lost <;> simp_all [sentPoints, holdPoints]

theorem execTcGetLastFault_stepped (s : State) : Stepped .tcGetLastFault s (execTcGetLastFault s) := by
  unfold execTcGetLastFault
  split
  · exact .finishWith (.of_free rfl) _
  · apply stepped_lost <;> simp_all [sentPoints, holdPoints]

theorem execTcSetCjOffset_stepped (s : State) : Stepped .tcSetCjOffset s (execTcSetCjOffset s) := by
  unfold execTcSetCjOffset
  split
  · exact .finish (.of_free rfl) true
  · apply stepped_lost <;> simp_all [sentPoints, holdPoints]

theorem execTcDecHot_stepped (s : State) : Stepped .tcDecHot s (execTcDecHot s) := by
  unfold execTcDecHot
  split
  · exact .finishWith (.refl _ s) _
  · apply stepped_lost <;> simp_all [sentPoints, holdPoints]

theorem execTcDecCold_stepped (s : State) : Stepped .tcDecCold s (execTcDecCold s) := by
  unfold execTcDecCold
  split
  · exact .finishWith (.refl _ s) _
  · apply stepped_lost <;> simp_all [sentPoints, holdPoints]

theorem State.tcReading_stepped (i : Instr) (raw : Word) (value : Option Fp) (s : State) :
    Stepped i s (.next (s.tcReading raw value)) := by
  obtain ⟨-, h⟩ | ⟨-, -, h⟩ | ⟨v, -, -, h⟩ := s.tcReading_cases raw value <;> rw [h]
  · exact .finishWith (.of_free rfl) _
  · exact .finishWith (.refl _ s) _
  · exact .finishWith (.refl _ s) _

theorem execTcReadVolt_stepped (s : State) : Stepped .tcReadVolt s (execTcReadVolt s) := by
  unfold execTcReadVolt
  split
  · split
    · exact .send (.refl _ s) (by simp [sentPoints])
    · exact .fail .inactive
  · exact s.tcReading_stepped _ _ _
  · apply stepped_lost <;> simp_all [sentPoints, holdPoints]

theorem execTcReadTemp_stepped (s : State) : Stepped .tcReadTemp s (execTcReadTemp s) := by
  unfold execTcReadTemp
  split
  · split
    · exact .send (.refl _ s) (by simp [sentPoints])
    · exact .fail .inactive
  · exact s.tcReading_stepped _ _ _
  · apply stepped_lost <;> simp_all [sentPoints, holdPoints]

/-! ### Each command's step: the decode pipeline (45_decode_pipeline.md) -/

theorem execPolyEval_stepped (table : Coded TableId) (s : State) :
    Stepped (.polyEval table) s (execPolyEval table s) := by
  unfold execPolyEval
  split
  · split
    · exact .fail .arg
    · exact .finishWith (.refl _ s) _
  · apply stepped_lost <;> simp_all [sentPoints, holdPoints]

theorem execRtdCalcRes_stepped (s : State) : Stepped .rtdCalcRes s (execRtdCalcRes s) := by
  unfold execRtdCalcRes
  split
  · exact .finishWith (.refl _ s) _
  · apply stepped_lost <;> simp_all [sentPoints, holdPoints]

theorem execRtdCalcTemp_stepped (s : State) : Stepped .rtdCalcTemp s (execRtdCalcTemp s) := by
  unfold execRtdCalcTemp
  split
  · exact .finishWith (.refl _ s) _
  · apply stepped_lost <;> simp_all [sentPoints, holdPoints]

end Sys2Proof.Machine
end

section
open Sys2Proof Sys2Proof.Machine
namespace Sys2Proof.Machine

/-! ### Each command's step: the multiplexer (43_channel_mux.md) -/

theorem State.muxSelEnd_stepped {i : Instr} {s u : State} (hi : movesMux i = true) (hlabel : 2 ∈ holdPoints i)
    (h : Writes i s u) (fam : Family) : Stepped i s (.next (u.muxSelEnd fam)) := by
  obtain ⟨-, heq⟩ | ⟨-, -, heq⟩ | ⟨-, -, heq⟩ := u.muxSelEnd_cases fam <;> rw [heq]
  · exact .finish h true
  · exact .finish (h.trans (writes_muxSelected hi)) true
  · exact .hold h hlabel (h.params ▸ u.params.settle_le_longestWait fam)

theorem State.muxSelAsyncEnd_stepped {i : Instr} {s u : State} (hi : movesMux i = true) (h : Writes i s u)
    (fam : Family) : Stepped i s (.next (u.muxSelAsyncEnd fam)) := by
  obtain ⟨-, heq⟩ | ⟨-, -, heq⟩ | ⟨-, -, heq⟩ := u.muxSelAsyncEnd_cases fam <;> rw [heq]
  · exact .finish h true
  · exact .finish (h.trans (writes_muxSelected hi)) true
  · exact .finish h false

theorem execMuxSel_stepped (channel : Coded Channel) (probe : Coded ProbeType) (s : State) :
    Stepped (.muxSel channel probe) s (execMuxSel channel probe s) := by
  unfold execMuxSel
  split
  · split
    · exact .fail _
    · exact .finish (.refl _ s) true
    · next ch p fam hreq =>
      obtain ⟨rfl, rfl, hfam, -, -⟩ := State.muxRequest_select hreq
      obtain ⟨rfl, -, heq⟩ | ⟨rfl, -, heq⟩ | ⟨-, heq⟩ := s.muxSetup_cases ch p fam <;> rw [heq]
      · exact .send ((writes_setRoute rfl .rtd).trans (writes_rtdType p)) (by simp [sentPoints, hfam])
      · refine State.muxSelEnd_stepped rfl (by simp [holdPoints]) ?_ .tc
        exact (writes_setRoute rfl .tc).trans <| (Writes.of_free rfl).trans <|
          (writes_cacheProbe rfl ch p).trans (writes_selectLines rfl ch _)
      · refine State.muxSelEnd_stepped rfl (by simp [holdPoints]) ?_ fam
        exact (writes_setRoute rfl fam).trans (writes_selectLines rfl ch _)
  · split
    · next _ _ ch p =>
      refine State.muxSelEnd_stepped rfl (by simp [holdPoints]) ?_ .rtd
      exact (writes_cacheProbe rfl ch p).trans (writes_selectLines rfl ch _)
    · cases channel <;> cases probe <;> apply stepped_lost <;> simp_all [sentPoints, holdPoints]
  · exact .whenElapsed (.finish (writes_muxSelected rfl) true)
  · cases channel <;> cases probe <;> apply stepped_lost <;> simp_all [sentPoints, holdPoints]

theorem execMuxSelAsync_stepped (channel : Coded Channel) (probe : Coded ProbeType) (s : State) :
    Stepped (.muxSelAsync channel probe) s (execMuxSelAsync channel probe s) := by
  unfold execMuxSelAsync
  split
  · split
    · exact .fail _
    · exact .finish (.refl _ s) false
    · next ch p fam hreq =>
      obtain ⟨rfl, rfl, hfam, -, -⟩ := State.muxRequest_select hreq
      obtain ⟨rfl, -, heq⟩ | ⟨rfl, -, heq⟩ | ⟨-, heq⟩ := s.muxSetup_cases ch p fam <;> rw [heq]
      · exact .send ((writes_setRoute rfl .rtd).trans (writes_rtdType p)) (by simp [sentPoints, hfam])
      · refine State.muxSelAsyncEnd_stepped rfl ?_ .tc
        exact (writes_setRoute rfl .tc).trans <| (Writes.of_free rfl).trans <|
          (writes_cacheProbe rfl ch p).trans (writes_selectLines rfl ch _)
      · refine State.muxSelAsyncEnd_stepped rfl ?_ fam
        exact (writes_setRoute rfl fam).trans (writes_selectLines rfl ch _)
  · split
    · next _ _ ch p =>
      refine State.muxSelAsyncEnd_stepped rfl ?_ .rtd
      exact (writes_cacheProbe rfl ch p).trans (writes_selectLines rfl ch _)
    · cases channel <;> cases probe <;> apply stepped_lost <;> simp_all [sentPoints, holdPoints]
  · cases channel <;> cases probe <;> apply stepped_lost <;> simp_all [sentPoints, holdPoints]

/-! ### Each command's step: the lifecycle (44_lifecycle.md) -/

section
variable {i : Instr} {s u : State}

theorem State.tcOpen_stepped (hi : movesMux i = true) (hlabel : 1 ∈ sentPoints i) :
    Stepped i s (.next s.tcOpen) :=
  .send ((writes_acquire hi).trans (writes_setCs .tc (by decide))) hlabel

theorem writes_tcOpened (hi : movesMux i = true) (raw : Word) : Writes i s (s.tcOpened raw) := by
  unfold State.tcOpened
  split
  · exact writes_active hi true s.rtdActive
  · exact (writes_setCs .tc (by decide)).trans (writes_release hi)

theorem State.rtdOpen_stepped (hi : movesMux i = true) (h : Writes i s u) {base : Nat} {flag : Bool}
    (hlabel : base + 1 ∈ sentPoints i) : Stepped i s (.next (u.rtdOpen base flag)) :=
  .send (h.trans <| (writes_acquire hi).trans <| (writes_setCs .rtd (by decide)).trans writes_clearCfg) hlabel

theorem State.rtdOpenWrite_stepped {base k : Nat} {flag : Bool} (hlabel : base + k ∈ sentPoints i) :
    Stepped i s (.next (s.rtdOpenWrite base k flag)) :=
  .send (.refl i s) hlabel

theorem State.beginRtdPart_stepped (hi : movesMux i = true) (h : Writes i s u) (hlabel : 2 ∈ sentPoints i)
    (okT : Bool) : Stepped i s (.next (u.beginRtdPart okT)) := by
  unfold State.beginRtdPart
  split
  · exact .finish h okT
  · exact State.rtdOpen_stepped hi h hlabel

theorem writes_tcClose (hi : movesMux i = true) : Writes i s s.tcClose := by
  unfold State.tcClose
  split
  · exact (writes_setCs .tc (by decide)).trans <| (writes_active hi false s.rtdActive).trans (writes_release hi)
  · exact .refl i s

theorem writes_rtdClose (hi : movesMux i = true) : Writes i s s.rtdClose := by
  unfold State.rtdClose
  split
  · refine ((writes_setCs .rtd (l := .z) (by decide)).trans ?_).trans (writes_release hi)
    exact .of_mux hi rfl (.inl rfl) (trace_grows_of_eq rfl)
  · exact .refl i s

end

theorem execBeginTc_stepped (s : State) : Stepped .beginTc s (execBeginTc s) := by
  unfold execBeginTc
  split
  · split
    · exact .finish (.refl _ s) true
    · exact State.tcOpen_stepped rfl (by decide)
  · exact .finish (writes_tcOpened rfl _) _
  · apply stepped_lost <;> simp_all [sentPoints, holdPoints]

theorem execBeginRtd_stepped (s : State) : Stepped .beginRtd s (execBeginRtd s) := by
  unfold execBeginRtd
  split
  · split
    · exact .finish (.refl _ s) true
    · exact State.rtdOpen_stepped rfl (.refl _ s) (by decide)
  iterate 6 · exact State.rtdOpenWrite_stepped (by decide)
  · exact .finish (writes_rtdOpened rfl) true
  · apply stepped_lost <;> simp_all [sentPoints, holdPoints]

theorem execBeginBoth_stepped (s : State) : Stepped .beginBoth s (execBeginBoth s) := by
  unfold execBeginBoth
  split
  · split
    · exact State.beginRtdPart_stepped rfl (.refl _ s) (by decide) true
    · exact State.tcOpen_stepped rfl (by decide)
  · exact State.beginRtdPart_stepped rfl (writes_tcOpened rfl _) (by decide) _
  iterate 6 · exact State.rtdOpenWrite_stepped (by decide)
  · exact .finish (writes_rtdOpened rfl) _
  · apply stepped_lost <;> simp_all [sentPoints, holdPoints]

theorem execEndTc_stepped (s : State) : Stepped .endTc s (execEndTc s) := by
  unfold execEndTc
  split
  · exact .finish (writes_tcClose rfl) true
  · apply stepped_lost <;> simp_all [sentPoints, holdPoints]

theorem execEndRtd_stepped (s : State) : Stepped .endRtd s (execEndRtd s) := by
  unfold execEndRtd
  split
  · exact .finish (writes_rtdClose rfl) true
  · apply stepped_lost <;> simp_all [sentPoints, holdPoints]

theorem execEndBoth_stepped (s : State) : Stepped .endBoth s (execEndBoth s) := by
  unfold execEndBoth
  split
  · exact .finish ((writes_tcClose rfl).trans (writes_rtdClose rfl)) true
  · apply stepped_lost <;> simp_all [sentPoints, holdPoints]

/-- What every engine step does, said once. -/
theorem exec_stepped (i : Instr) (s : State) : Stepped i s (exec i s) := by
  cases i with
  | nop => exact execNop_stepped s
  | spiRd8 chip addr => exact execSpiRd8_stepped chip addr s
  | spiRd16 chip addr => exact execSpiRd16_stepped chip addr s
  | spiWr8 chip addr value => exact execSpiWr8_stepped chip addr value s
  | tcRd32 => exact execTcRd32_stepped s
  | rtdSetType probe => exact execRtdSetType_stepped probe s
  | rtdSetThresh => exact execRtdSetThresh_stepped s
  | rtdGetLower => exact execRtdGetLower_stepped s
  | rtdGetUpper => exact execRtdGetUpper_stepped s
  | rtdSetAuto en => exact execRtdSetAuto_stepped en s
  | rtdSet50Hz en => exact execRtdSet50Hz_stepped en s
  | rtdSetBias en => exact execRtdSetBias_stepped en s
  | rtdReadFault cycle => exact execRtdReadFault_stepped cycle s
  | rtdClearFault => exact execRtdClearFault_stepped s
  | rtdRead => exact execRtdRead_stepped s
  | rtdReadAsync => exact execRtdReadAsync_stepped s
  | tcSetType probe => exact execTcSetType_stepped probe s
  | tcSetFaultMask mask => exact execTcSetFaultMask_stepped mask s
  | tcGetLastFault => exact execTcGetLastFault_stepped s
  | tcSetCjOffset => exact execTcSetCjOffset_stepped s
  | tcDecHot => exact execTcDecHot_stepped s
  | tcDecCold => exact execTcDecCold_stepped s
  | tcReadVolt => exact execTcReadVolt_stepped s
  | tcReadTemp => exact execTcReadTemp_stepped s
  | muxSel channel probe => exact execMuxSel_stepped channel probe s
  | muxSelAsync channel probe => exact execMuxSelAsync_stepped channel probe s
  | beginTc => exact execBeginTc_stepped s
  | beginRtd => exact execBeginRtd_stepped s
  | beginBoth => exact execBeginBoth_stepped s
  | endTc => exact execEndTc_stepped s
  | endRtd => exact execEndRtd_stepped s
  | endBoth => exact execEndBoth_stepped s
  | polyEval table => exact execPolyEval_stepped table s
  | rtdCalcRes => exact execRtdCalcRes_stepped s
  | rtdCalcTemp => exact execRtdCalcTemp_stepped s

end Sys2Proof.Machine
end

section
open Sys2Proof Sys2Proof.Machine
namespace Sys2Proof.Machine

/-! ### What every engine step keeps -/

theorem send_outside (chip : Chip) (mosi : List Byte) (pos : SeqPos) (s : State) :
    (s.send chip mosi pos).outside = s.outside := by cases chip <;> rfl

theorem send_muxPart (chip : Chip) (mosi : List Byte) (pos : SeqPos) (s : State) :
    (s.send chip mosi pos).muxPart = s.muxPart := by cases chip <;> rfl

section
variable {i : Instr} {s t : State}

/-- An engine step as the inversion lemma has it. -/
theorem stepped_of_exec (h : exec i s = .next t) : Stepped i s (.next t) := h ▸ exec_stepped i s

theorem Stepped.outside (h : Stepped i s (.next t)) : t.outside = s.outside := by
  cases h with
  | stay => rfl
  | fail e => rfl
  | finish hw ok => exact hw.outside
  | finishWith hw v => exact hw.outside
  | send hw hlabel => exact (send_outside ..).trans hw.outside
  | hold hw hlabel hd => exact hw.outside

theorem Stepped.ovr (h : Stepped i s (.next t)) : t.status.ovr = s.status.ovr := by
  cases h with
  | stay => rfl
  | fail e => rfl
  | finish hw ok => exact (congrArg Status.ovr hw.status :)
  | finishWith hw v => exact (congrArg Status.ovr hw.status :)
  | send hw hlabel => rw [State.send_status, hw.status]
  | hold hw hlabel hd => exact (congrArg Status.ovr hw.status :)

/-- A step adds pin writes to the trace, and the entries of one transaction where it makes one. -/
theorem Stepped.trace (h : Stepped i s (.next t)) : ∃ es, t.trace = s.trace ++ es ∧ spiCount es ≤ 1 := by
  have quiet {u v : State} (hw : Writes i s u) (hv : v.trace = u.trace) :
      ∃ es, v.trace = s.trace ++ es ∧ spiCount es ≤ 1 :=
    hw.trace.imp fun es hes => ⟨hv.trans hes.1, by simp [hes.2]⟩
  cases h with
  | stay => exact quiet (.refl i s) rfl
  | fail e => exact quiet (.refl i s) rfl
  | finish hw ok => exact quiet hw rfl
  | finishWith hw v => exact quiet hw rfl
  | @send u chip mosi label rx flag hw hlabel =>
    obtain ⟨es, htrace, hcount⟩ := hw.trace
    refine ⟨es ++ u.params.spiEvents chip mosi (u.miso mosi.length), ?_, by simp [hcount]⟩
    rw [State.send_trace, htrace, List.append_assoc]
  | hold hw hlabel hd => exact quiet hw rfl

/-- The registers of no clause but their own stay legal. -/
theorem Stepped.regs (h : Stepped i s (.next t)) (hwf : s.params.wf = true) (hs : s.RegsOk) : t.RegsOk := by
  have copy {u v : State} (hu : u.RegsOk) (hv : v = { u with seq := v.seq, status := v.status, result := v.result }) :
      v.RegsOk := by
    rw [hv]
    exact ⟨hu.times, hu.mirror, hu.wire, hu.chipSelects⟩
  cases h with
  | stay => exact hs
  | fail e => exact copy hs rfl
  | finish hw ok => exact copy (hw.regs hwf hs) rfl
  | finishWith hw v => exact copy (hw.regs hwf hs) rfl
  | @send u chip mosi label rx flag hw hlabel =>
    have hu := hw.regs hwf hs
    cases chip
    · exact ⟨hu.times, hu.mirror, hu.wire, Level.noConfusion, hu.chipSelects.2⟩
    · exact ⟨hu.times, hu.mirror, hu.wire, hu.chipSelects.1, Level.noConfusion⟩
  | hold hw hlabel hd => exact copy (hw.regs hwf hs) rfl

/-- A step either ends the command or leaves it at a position of its body. -/
theorem Stepped.position (h : Stepped i s (.next t)) (hfits : SeqFits s.params i s.seq = true) :
    (t.seq = .idle ∧ t.status.busy = false ∧ t.status.done = true) ∨
      (t.status = s.status ∧ SeqFits s.params i t.seq = true) := by
  cases h with
  | stay => exact .inr ⟨rfl, hfits⟩
  | fail e => exact .inl ⟨rfl, rfl, rfl⟩
  | finish hw ok => exact .inl ⟨rfl, rfl, rfl⟩
  | finishWith hw v => exact .inl ⟨rfl, rfl, rfl⟩
  | send hw hlabel => exact .inr ⟨by rw [State.send_status, hw.status], by simp [SeqFits, hlabel]⟩
  | hold hw hlabel hd => exact .inr ⟨hw.status, by simp [SeqFits, hlabel, hd]⟩

/-- A command outside the multiplexer and the lifecycle leaves the multiplexer and the activation flags. -/
theorem Stepped.muxPart (h : Stepped i s (.next t)) (hi : movesMux i = false) : t.muxPart = s.muxPart := by
  cases h with
  | stay => rfl
  | fail e => rfl
  | finish hw ok => exact hw.mux hi
  | finishWith hw v => exact hw.mux hi
  | send hw hlabel => exact (send_muxPart ..).trans (hw.mux hi)
  | hold hw hlabel hd => exact hw.mux hi

/-- From a position of its body a command goes on. -/
theorem exec_isNext (hfits : SeqFits s.params i s.seq = true) : ∃ t, exec i s = .next t := by
  have h := exec_stepped i s
  generalize exec i s = o at h
  cases h with
  | lost hlost => rw [hlost] at hfits; cases hfits
  | _ => exact ⟨_, rfl⟩

end

/-- Settles O18: the transaction of a step, if it makes one, is its only one. -/
theorem oneTransferPerStep : Obligations.OneTransferPerStep :=
  fun _ _ _ h => (stepped_of_exec h).trace

end Sys2Proof.Machine
end

section
open Sys2Proof Sys2Proof.Machine
namespace Sys2Proof.Machine

/-! ### No engine step reads the `ARG` registers (20_memory.md R42) -/

/-- The state with other `ARG` registers. -/
def State.withArgs (a0 a1 a2 : Word) (s : State) : State := { s with arg0 := a0, arg1 := a1, arg2 := a2 }

/-- An outcome with its next state, if it has one, changed. -/
def mapNext (f : State → State) : Outcome → Outcome
  | .next s => .next (f s)
  | .fault r => .fault r
  | .refused r => .refused r

section
variable {a0 a1 a2 : Word} {s : State}

/-- A choice made on a condition that does not read the `ARG` registers. -/
theorem ite_mapNext {c : Prop} [Decidable c] {f : State → State} {x x' y y' : Outcome} (hx : x' = mapNext f x)
    (hy : y' = mapNext f y) : (if c then x' else y') = mapNext f (if c then x else y) := by
  rw [hx, hy]; exact (apply_ite ..).symm

theorem ite_withArgs {c : Prop} [Decidable c] {x x' y y' : State} (hx : x' = x.withArgs a0 a1 a2)
    (hy : y' = y.withArgs a0 a1 a2) : (if c then x' else y') = (if c then x else y).withArgs a0 a1 a2 := by
  rw [hx, hy]; exact (apply_ite ..).symm

theorem next_mapNext {f : State → State} {u u' : State} (h : u' = f u) : Host.Outcome.next u' = mapNext f (.next u) :=
  congrArg Host.Outcome.next h

theorem State.withArgs_seq : (s.withArgs a0 a1 a2).seq = s.seq := rfl

theorem State.withArgs_muxState : (s.withArgs a0 a1 a2).muxState = s.muxState := rfl

theorem State.withArgs_rtdState : (s.withArgs a0 a1 a2).rtdState = s.rtdState := rfl

theorem State.send_withArgs (chip : Chip) (mosi : List Byte) (pos : SeqPos) :
    (s.withArgs a0 a1 a2).send chip mosi pos = (s.send chip mosi pos).withArgs a0 a1 a2 := by
  cases chip <;> rfl

theorem State.muxRequest_withArgs (channel : Coded Channel) (probe : Coded ProbeType) :
    (s.withArgs a0 a1 a2).muxRequest channel probe = s.muxRequest channel probe := rfl

theorem State.tcReading_withArgs (raw : Word) (value : Option Fp) :
    (s.withArgs a0 a1 a2).tcReading raw value = (s.tcReading raw value).withArgs a0 a1 a2 :=
  ite_withArgs rfl (by cases value <;> rfl)

theorem State.acquire_withArgs : (s.withArgs a0 a1 a2).acquire = s.acquire.withArgs a0 a1 a2 := ite_withArgs rfl rfl

theorem State.release_withArgs : (s.withArgs a0 a1 a2).release = s.release.withArgs a0 a1 a2 := ite_withArgs rfl rfl

theorem State.tcOpen_withArgs : (s.withArgs a0 a1 a2).tcOpen = s.tcOpen.withArgs a0 a1 a2 := by
  unfold State.tcOpen
  rw [State.acquire_withArgs]
  rfl

theorem State.tcOpened_withArgs (raw : Word) :
    (s.withArgs a0 a1 a2).tcOpened raw = (s.tcOpened raw).withArgs a0 a1 a2 :=
  ite_withArgs rfl (State.release_withArgs (s := s.setCs .tc .z))

theorem State.rtdOpen_withArgs (base : Nat) (flag : Bool) :
    (s.withArgs a0 a1 a2).rtdOpen base flag = (s.rtdOpen base flag).withArgs a0 a1 a2 := by
  unfold State.rtdOpen
  rw [State.acquire_withArgs]
  rfl

theorem State.beginRtdPart_withArgs (okT : Bool) :
    (s.withArgs a0 a1 a2).beginRtdPart okT = (s.beginRtdPart okT).withArgs a0 a1 a2 :=
  ite_withArgs rfl (State.rtdOpen_withArgs 1 okT)

theorem State.tcClose_withArgs : (s.withArgs a0 a1 a2).tcClose = s.tcClose.withArgs a0 a1 a2 :=
  ite_withArgs (State.release_withArgs (s := { s.setCs .tc .z with tcActive := false })) rfl

theorem State.rtdClose_withArgs : (s.withArgs a0 a1 a2).rtdClose = s.rtdClose.withArgs a0 a1 a2 :=
  ite_withArgs (State.release_withArgs (s := { s.setCs .rtd .z with rtdActive := false, rtdState := .idle })) rfl

theorem State.muxSelEnd_withArgs (fam : Family) :
    (s.withArgs a0 a1 a2).muxSelEnd fam = (s.muxSelEnd fam).withArgs a0 a1 a2 := by
  unfold State.muxSelEnd
  rw [State.withArgs_muxState]
  split
  · rfl
  · exact ite_withArgs rfl rfl

theorem State.muxSelAsyncEnd_withArgs (fam : Family) :
    (s.withArgs a0 a1 a2).muxSelAsyncEnd fam = (s.muxSelAsyncEnd fam).withArgs a0 a1 a2 := by
  unfold State.muxSelAsyncEnd
  rw [State.withArgs_muxState]
  split
  · rfl
  · exact ite_withArgs rfl rfl

theorem execSpiRd8_withArgs (chip : Chip) (addr : Byte) :
    execSpiRd8 chip addr (s.withArgs a0 a1 a2) = mapNext (State.withArgs a0 a1 a2) (execSpiRd8 chip addr s) := by
  unfold execSpiRd8
  rw [State.withArgs_seq]
  split
  · exact ite_mapNext (next_mapNext (State.send_withArgs ..)) rfl
  all_goals rfl

theorem execSpiRd16_withArgs (chip : Chip) (addr : Byte) :
    execSpiRd16 chip addr (s.withArgs a0 a1 a2) = mapNext (State.withArgs a0 a1 a2) (execSpiRd16 chip addr s) := by
  unfold execSpiRd16
  rw [State.withArgs_seq]
  split
  · exact ite_mapNext (next_mapNext (State.send_withArgs ..)) rfl
  all_goals rfl

theorem execSpiWr8_withArgs (chip : Chip) (addr : Byte) (value : Byte) :
    execSpiWr8 chip addr value (s.withArgs a0 a1 a2) =
      mapNext (State.withArgs a0 a1 a2) (execSpiWr8 chip addr value s) := by
  unfold execSpiWr8
  rw [State.withArgs_seq]
  split
  · exact ite_mapNext (next_mapNext (State.send_withArgs ..)) rfl
  all_goals rfl

theorem execTcRd32_withArgs :
    execTcRd32 (s.withArgs a0 a1 a2) = mapNext (State.withArgs a0 a1 a2) (execTcRd32 s) := by
  unfold execTcRd32
  rw [State.withArgs_seq]
  split
  · exact ite_mapNext rfl rfl
  all_goals rfl

theorem execRtdSetType_withArgs (probe : Coded ProbeType) :
    execRtdSetType probe (s.withArgs a0 a1 a2) = mapNext (State.withArgs a0 a1 a2) (execRtdSetType probe s) := by
  unfold execRtdSetType
  rw [State.withArgs_seq]
  split
  · cases probe with
    | unknown code => rfl
    | known p => exact ite_mapNext rfl rfl
  all_goals rfl

theorem execRtdSetThresh_withArgs :
    execRtdSetThresh (s.withArgs a0 a1 a2) = mapNext (State.withArgs a0 a1 a2) (execRtdSetThresh s) := by
  unfold execRtdSetThresh
  rw [State.withArgs_seq]
  split
  · exact ite_mapNext rfl rfl
  all_goals rfl

theorem execRtdGetLower_withArgs :
    execRtdGetLower (s.withArgs a0 a1 a2) = mapNext (State.withArgs a0 a1 a2) (execRtdGetLower s) := by
  unfold execRtdGetLower
  rw [State.withArgs_seq]
  split
  · exact ite_mapNext rfl rfl
  all_goals rfl

theorem execRtdGetUpper_withArgs :
    execRtdGetUpper (s.withArgs a0 a1 a2) = mapNext (State.withArgs a0 a1 a2) (execRtdGetUpper s) := by
  unfold execRtdGetUpper
  rw [State.withArgs_seq]
  split
  · exact ite_mapNext rfl rfl
  all_goals rfl

theorem execRtdSetAuto_withArgs (en : Bool) :
    execRtdSetAuto en (s.withArgs a0 a1 a2) = mapNext (State.withArgs a0 a1 a2) (execRtdSetAuto en s) := by
  unfold execRtdSetAuto
  rw [State.withArgs_seq]
  split
  · exact ite_mapNext rfl rfl
  · exact ite_mapNext (next_mapNext (ite_withArgs rfl rfl)) rfl
  · exact ite_mapNext rfl rfl
  · rfl

theorem execRtdSet50Hz_withArgs (en : Bool) :
    execRtdSet50Hz en (s.withArgs a0 a1 a2) = mapNext (State.withArgs a0 a1 a2) (execRtdSet50Hz en s) := by
  unfold execRtdSet50Hz
  rw [State.withArgs_seq]
  split
  · exact ite_mapNext rfl rfl
  all_goals rfl

theorem execRtdSetBias_withArgs (en : Bool) :
    execRtdSetBias en (s.withArgs a0 a1 a2) = mapNext (State.withArgs a0 a1 a2) (execRtdSetBias en s) := by
  unfold execRtdSetBias
  rw [State.withArgs_seq]
  split
  · exact ite_mapNext rfl rfl
  all_goals rfl

theorem execRtdClearFault_withArgs :
    execRtdClearFault (s.withArgs a0 a1 a2) = mapNext (State.withArgs a0 a1 a2) (execRtdClearFault s) := by
  unfold execRtdClearFault
  rw [State.withArgs_seq]
  split
  · exact ite_mapNext rfl rfl
  all_goals rfl

theorem execRtdRead_withArgs :
    execRtdRead (s.withArgs a0 a1 a2) = mapNext (State.withArgs a0 a1 a2) (execRtdRead s) := by
  unfold execRtdRead
  rw [State.withArgs_seq]
  split
  · exact ite_mapNext rfl rfl
  · exact ite_mapNext rfl (ite_mapNext rfl rfl)
  · exact next_mapNext (ite_withArgs rfl rfl)
  · exact ite_mapNext rfl rfl
  · exact next_mapNext (ite_withArgs rfl rfl)
  · exact ite_mapNext rfl rfl
  · exact ite_mapNext rfl rfl
  all_goals rfl

theorem execRtdReadAsync_withArgs :
    execRtdReadAsync (s.withArgs a0 a1 a2) = mapNext (State.withArgs a0 a1 a2) (execRtdReadAsync s) := by
  unfold execRtdReadAsync
  rw [State.withArgs_seq]
  split
  · refine ite_mapNext ?_ rfl
    rw [State.withArgs_rtdState]
    split
    · rfl
    · exact ite_mapNext rfl rfl
    · exact ite_mapNext rfl rfl
  · exact ite_mapNext rfl rfl
  · rfl
  · rfl
  · exact ite_mapNext rfl rfl
  all_goals rfl

theorem execTcReadVolt_withArgs :
    execTcReadVolt (s.withArgs a0 a1 a2) = mapNext (State.withArgs a0 a1 a2) (execTcReadVolt s) := by
  unfold execTcReadVolt
  rw [State.withArgs_seq]
  split
  · exact ite_mapNext rfl rfl
  · exact next_mapNext (State.tcReading_withArgs ..)
  · rfl

theorem execTcReadTemp_withArgs :
    execTcReadTemp (s.withArgs a0 a1 a2) = mapNext (State.withArgs a0 a1 a2) (execTcReadTemp s) := by
  unfold execTcReadTemp
  rw [State.withArgs_seq]
  split
  · exact ite_mapNext rfl rfl
  · exact next_mapNext (State.tcReading_withArgs ..)
  · rfl

theorem execPolyEval_withArgs (table : Coded TableId) :
    execPolyEval table (s.withArgs a0 a1 a2) = mapNext (State.withArgs a0 a1 a2) (execPolyEval table s) := by
  unfold execPolyEval
  rw [State.withArgs_seq]
  split
  · cases table <;> rfl
  · rfl

theorem execTcSetType_withArgs (probe : Coded ProbeType) :
    execTcSetType probe (s.withArgs a0 a1 a2) = mapNext (State.withArgs a0 a1 a2) (execTcSetType probe s) := by
  unfold execTcSetType
  rw [State.withArgs_seq]
  split
  · cases probe <;> rfl
  · rfl

theorem execBeginTc_withArgs :
    execBeginTc (s.withArgs a0 a1 a2) = mapNext (State.withArgs a0 a1 a2) (execBeginTc s) := by
  unfold execBeginTc
  rw [State.withArgs_seq]
  split
  · exact ite_mapNext rfl (next_mapNext State.tcOpen_withArgs)
  · rw [State.tcOpened_withArgs]; rfl
  · rfl

theorem execBeginRtd_withArgs :
    execBeginRtd (s.withArgs a0 a1 a2) = mapNext (State.withArgs a0 a1 a2) (execBeginRtd s) := by
  unfold execBeginRtd
  rw [State.withArgs_seq]
  split
  · exact ite_mapNext rfl (next_mapNext (State.rtdOpen_withArgs 0 false))
  all_goals rfl

theorem execBeginBoth_withArgs :
    execBeginBoth (s.withArgs a0 a1 a2) = mapNext (State.withArgs a0 a1 a2) (execBeginBoth s) := by
  unfold execBeginBoth
  rw [State.withArgs_seq]
  split
  · exact ite_mapNext (next_mapNext (State.beginRtdPart_withArgs true)) (next_mapNext State.tcOpen_withArgs)
  · rw [State.tcOpened_withArgs]
    exact next_mapNext (State.beginRtdPart_withArgs _)
  all_goals rfl

theorem execEndTc_withArgs :
    execEndTc (s.withArgs a0 a1 a2) = mapNext (State.withArgs a0 a1 a2) (execEndTc s) := by
  unfold execEndTc
  rw [State.withArgs_seq]
  split
  · rw [State.tcClose_withArgs]; rfl
  · rfl

theorem execEndRtd_withArgs :
    execEndRtd (s.withArgs a0 a1 a2) = mapNext (State.withArgs a0 a1 a2) (execEndRtd s) := by
  unfold execEndRtd
  rw [State.withArgs_seq]
  split
  · rw [State.rtdClose_withArgs]; rfl
  · rfl

theorem execEndBoth_withArgs :
    execEndBoth (s.withArgs a0 a1 a2) = mapNext (State.withArgs a0 a1 a2) (execEndBoth s) := by
  unfold execEndBoth
  rw [State.withArgs_seq]
  split
  · rw [State.tcClose_withArgs, State.rtdClose_withArgs]; rfl
  · rfl

theorem execRtdReadFault_withArgs (cycle : Coded FaultCycle) :
    execRtdReadFault cycle (s.withArgs a0 a1 a2) = mapNext (State.withArgs a0 a1 a2) (execRtdReadFault cycle s) := by
  match cycle with
  | .unknown code =>
    rw [execRtdReadFault_unknown, execRtdReadFault_unknown, State.withArgs_seq]
    split <;> rfl
  | .known .none =>
    rw [execRtdReadFault_none, execRtdReadFault_none, State.withArgs_seq]
    split
    · exact ite_mapNext rfl rfl
    · rfl
    · rfl
  | .known .auto =>
    rw [execRtdReadFault_auto, execRtdReadFault_auto, State.withArgs_seq]
    split
    · exact ite_mapNext rfl rfl
    · exact next_mapNext (ite_withArgs rfl rfl)
    · exact ite_mapNext rfl rfl
    · rfl
    · rfl
  | .known .manualRun =>
    rw [execRtdReadFault_manualRun, execRtdReadFault_manualRun, State.withArgs_seq]
    split
    · exact ite_mapNext rfl rfl
    · rfl
    · rfl
  | .known .manualFinish =>
    rw [execRtdReadFault_manualFinish, execRtdReadFault_manualFinish, State.withArgs_seq]
    split
    · exact ite_mapNext rfl rfl
    · rfl
    · rfl

theorem State.muxSetup_withArgs (ch : Channel) (p : ProbeType) (fam : Family) :
    (s.withArgs a0 a1 a2).muxSetup ch p fam =
      ((s.muxSetup ch p fam).1.withArgs a0 a1 a2, (s.muxSetup ch p fam).2) := by
  have hsame : ((s.withArgs a0 a1 a2).setRoute fam).mustReprogram ch p = (s.setRoute fam).mustReprogram ch p := rfl
  unfold State.muxSetup
  dsimp only
  rw [hsame]
  cases (s.setRoute fam).mustReprogram ch p
  · rfl
  · cases fam <;> rfl

theorem execMuxSel_withArgs (channel : Coded Channel) (probe : Coded ProbeType) :
    execMuxSel channel probe (s.withArgs a0 a1 a2) =
      mapNext (State.withArgs a0 a1 a2) (execMuxSel channel probe s) := by
  unfold execMuxSel
  rw [State.withArgs_seq]
  split
  · rw [State.muxRequest_withArgs]
    split
    · rfl
    · rfl
    · next ch p fam _ =>
      rw [State.muxSetup_withArgs]
      exact ite_mapNext rfl
        (next_mapNext (State.muxSelEnd_withArgs (s := (s.muxSetup ch p fam).1.selectLines ch _) fam))
  · split
    · next rev _ _ _ ch p =>
      exact next_mapNext (State.muxSelEnd_withArgs (s := (s.cacheProbe ch p).selectLines ch rev) .rtd)
    · rfl
  · exact ite_mapNext rfl rfl
  · rfl

theorem execMuxSelAsync_withArgs (channel : Coded Channel) (probe : Coded ProbeType) :
    execMuxSelAsync channel probe (s.withArgs a0 a1 a2) =
      mapNext (State.withArgs a0 a1 a2) (execMuxSelAsync channel probe s) := by
  unfold execMuxSelAsync
  rw [State.withArgs_seq]
  split
  · rw [State.muxRequest_withArgs]
    split
    · rfl
    · rfl
    · next ch p fam _ =>
      rw [State.muxSetup_withArgs]
      exact ite_mapNext rfl
        (next_mapNext (State.muxSelAsyncEnd_withArgs (s := (s.muxSetup ch p fam).1.selectLines ch _) fam))
  · split
    · next rev _ _ _ ch p =>
      exact next_mapNext (State.muxSelAsyncEnd_withArgs (s := (s.cacheProbe ch p).selectLines ch rev) .rtd)
    · rfl
  · rfl

/-- A step is the same for other `ARG` registers, which it leaves as they are. -/
theorem exec_withArgs (i : Instr) :
    exec i (s.withArgs a0 a1 a2) = mapNext (State.withArgs a0 a1 a2) (exec i s) := by
  cases i with
  | spiRd8 chip addr => exact execSpiRd8_withArgs chip addr
  | spiRd16 chip addr => exact execSpiRd16_withArgs chip addr
  | spiWr8 chip addr value => exact execSpiWr8_withArgs chip addr value
  | tcRd32 => exact execTcRd32_withArgs
  | rtdSetType probe => exact execRtdSetType_withArgs probe
  | rtdSetThresh => exact execRtdSetThresh_withArgs
  | rtdGetLower => exact execRtdGetLower_withArgs
  | rtdGetUpper => exact execRtdGetUpper_withArgs
  | rtdSetAuto en => exact execRtdSetAuto_withArgs en
  | rtdSet50Hz en => exact execRtdSet50Hz_withArgs en
  | rtdSetBias en => exact execRtdSetBias_withArgs en
  | rtdReadFault cycle => exact execRtdReadFault_withArgs cycle
  | rtdClearFault => exact execRtdClearFault_withArgs
  | rtdRead => exact execRtdRead_withArgs
  | rtdReadAsync => exact execRtdReadAsync_withArgs
  | tcSetType probe => exact execTcSetType_withArgs probe
  | tcReadVolt => exact execTcReadVolt_withArgs
  | tcReadTemp => exact execTcReadTemp_withArgs
  | muxSel channel probe => exact execMuxSel_withArgs channel probe
  | muxSelAsync channel probe => exact execMuxSelAsync_withArgs channel probe
  | beginTc => exact execBeginTc_withArgs
  | beginRtd => exact execBeginRtd_withArgs
  | beginBoth => exact execBeginBoth_withArgs
  | endTc => exact execEndTc_withArgs
  | endRtd => exact execEndRtd_withArgs
  | endBoth => exact execEndBoth_withArgs
  | polyEval table => exact execPolyEval_withArgs table
  | _ =>
    simp only [exec, execNop, execTcSetFaultMask, execTcGetLastFault, execTcSetCjOffset, execTcDecHot, execTcDecCold,
      execRtdCalcRes, execRtdCalcTemp, State.withArgs_seq]
    split <;> rfl

end

/-- Settles O16, from the inversion of a step and from `exec_withArgs`. -/
theorem engineLeavesHostAndInputs : Obligations.EngineLeavesHostAndInputs := by
  constructor
  · intro i s t h
    have hstep := stepped_of_exec h
    have hout := hstep.outside
    simp only [State.outside, Prod.mk.injEq] at hout
    obtain ⟨hparams, ⟨hcmd, harg0, harg1, harg2⟩, hlatch, ⟨hnow, hreverse, hrst⟩, hhost, hturns⟩ := hout
    exact ⟨hcmd, harg0, harg1, harg2, hlatch, hnow, hreverse, hrst, hstep.ovr, hhost, hturns, hparams⟩
  · intro i s t a0 a1 a2 h
    have hargs : exec i (s.withArgs a0 a1 a2) = _ := exec_withArgs i
    rwa [h] at hargs

end Sys2Proof.Machine
end

section
open Sys2Proof Sys2Proof.Machine
namespace Sys2Proof.Machine

/-! ### The multiplexer under a command (43_channel_mux.md R103, R109; 44_lifecycle.md R111, R112) -/

/-- The clauses of the invariant about the multiplexer alone. -/
structure State.MuxLegal (s : State) : Prop where
  lines : match s.curChannel with
    | none => s.sel = 0#3
    | some ch => ∃ rev, s.sel = oneHot (physOf ch rev)
  released : s.outCfg = false →
    s.sel = 0#3 ∧ s.route = false ∧ s.curChannel = none ∧ s.muxState = .selected ∧ s.muxTs = 0#32 ∧
      s.cache = { ch0 := .none, ch1 := .none, ch2 := .none }

/-- The shared outputs are configured exactly while a sub-driver is active. -/
structure State.Settled (s : State) : Prop where
  legal : s.MuxLegal
  outputs : s.outCfg = (s.tcActive || s.rtdActive)

/-- The shared outputs are configured, whether or not a sub-driver is active yet. -/
structure State.Opening (s : State) : Prop where
  legal : s.MuxLegal
  outputs : s.outCfg = true

/-- The clauses of the invariant about the multiplexer while `i` is the latched command. -/
structure State.MuxInv (i : Instr) (s : State) : Prop where
  legal : s.MuxLegal
  outputs : s.outCfg = (s.tcActive || s.rtdActive || (s.seq.begun && opens i))
  selecting : s.seq.begun = true → selects i = true → s.outCfg = true
  holding : ∀ c p fam, i = .muxSel c (.known p) → familyOf p = some fam →
    ∀ label t0 d flag, s.seq = .hold label t0 d flag →
      t0 = s.muxTs ∧ d = s.params.settle fam ∧ s.muxState = .switching

section
variable {i : Instr} {s t u : State}

theorem State.MuxLegal.of_muxPart (hs : s.MuxLegal) (h : t.muxPart = s.muxPart) : t.MuxLegal := by
  simp only [State.muxPart, Prod.mk.injEq] at h
  obtain ⟨⟨-, -, hout⟩, hcur, hcache, ⟨hsel, hroute⟩, hstate, hts⟩ := h
  constructor
  · rw [hcur, hsel]; exact hs.lines
  · rw [hout, hsel, hroute, hcur, hstate, hts, hcache]; exact hs.released

theorem State.Settled.of_muxPart (hs : s.Settled) (h : t.muxPart = s.muxPart) : t.Settled := by
  refine ⟨hs.legal.of_muxPart h, ?_⟩
  simp only [State.muxPart, Prod.mk.injEq] at h
  obtain ⟨⟨htc, hrtd, hout⟩, -⟩ := h
  rw [htc, hrtd, hout, hs.outputs]

theorem State.Opening.of_muxPart (hs : s.Opening) (h : t.muxPart = s.muxPart) : t.Opening := by
  refine ⟨hs.legal.of_muxPart h, ?_⟩
  simp only [State.muxPart, Prod.mk.injEq] at h
  obtain ⟨⟨-, -, hout⟩, -⟩ := h
  rw [hout, hs.outputs]

/-- Activation flags are no part of what is legal for the multiplexer. -/
theorem State.MuxLegal.of_active (hs : s.MuxLegal) (tc rtd : Bool) :
    ({ s with tcActive := tc, rtdActive := rtd } : State).MuxLegal :=
  ⟨hs.lines, hs.released⟩

theorem State.clearMux_legal (s : State) (on : Bool) : (s.clearMux on).MuxLegal :=
  ⟨rfl, fun _ => ⟨rfl, rfl, rfl, rfl, rfl, rfl⟩⟩

theorem State.Settled.acquire (hs : s.Settled) : s.acquire.Opening := by
  rw [State.acquire_eq]
  split
  · exact ⟨hs.legal, by simp_all [hs.outputs]⟩
  · exact ⟨s.clearMux_legal true, rfl⟩

theorem State.Opening.release (hs : s.Opening) : s.release.Settled := by
  rw [State.release_eq]
  split
  · exact ⟨hs.legal, by simp_all [hs.outputs]⟩
  · exact ⟨s.clearMux_legal false, by simp_all⟩

theorem setCs_muxPart (chip : Chip) (l : Level) (s : State) : (s.setCs chip l).muxPart = s.muxPart := by
  cases chip <;> rfl

/-! ### The bodies of the lifecycle -/

theorem State.Settled.tcOpen (hs : s.Settled) : s.tcOpen.Opening :=
  hs.acquire.of_muxPart ((send_muxPart ..).trans (setCs_muxPart ..))

theorem State.Opening.tcOpened (hs : s.Opening) (raw : Word) : (s.tcOpened raw).Settled := by
  unfold State.tcOpened
  split
  · exact ⟨hs.legal.of_active true s.rtdActive, by simpa using hs.outputs⟩
  · exact (hs.of_muxPart (setCs_muxPart ..)).release

theorem State.Settled.rtdOpen (hs : s.Settled) (base : Nat) (flag : Bool) : (s.rtdOpen base flag).Opening :=
  hs.acquire.of_muxPart ((send_muxPart ..).trans (setCs_muxPart .rtd .high s.acquire))

theorem State.Opening.rtdOpenWrite (hs : s.Opening) (base k : Nat) (flag : Bool) :
    (s.rtdOpenWrite base k flag).Opening :=
  hs.of_muxPart (send_muxPart ..)

theorem State.Opening.rtdOpened (hs : s.Opening) : s.rtdOpened.Settled :=
  ⟨⟨hs.legal.lines, hs.legal.released⟩, by simpa using hs.outputs⟩

theorem State.Settled.tcClose (hs : s.Settled) : s.tcClose.Settled := by
  unfold State.tcClose
  split
  · next hactive =>
    refine State.Opening.release ⟨(hs.legal.of_muxPart (setCs_muxPart .tc .z s)).of_active false s.rtdActive, ?_⟩
    simp [hs.outputs, hactive]
  · exact hs

theorem State.Settled.rtdClose (hs : s.Settled) : s.rtdClose.Settled := by
  unfold State.rtdClose
  split
  · next hactive =>
    have hlegal := (hs.legal.of_muxPart (setCs_muxPart .rtd .z s)).of_active s.tcActive false
    refine State.Opening.release ⟨⟨hlegal.lines, hlegal.released⟩, ?_⟩
    simp [hs.outputs, hactive]
  · exact hs

/-! ### Between the clauses and these -/

theorem State.MuxInv.settled (h : s.MuxInv i) (hi : (s.seq.begun && opens i) = false) : s.Settled :=
  ⟨h.legal, by rw [h.outputs, hi, Bool.or_false]⟩

theorem State.MuxInv.opening (h : s.MuxInv i) (hseq : s.seq.begun = true) (hi : opens i = true) : s.Opening :=
  ⟨h.legal, by rw [h.outputs, hseq, hi]; simp⟩

theorem State.Settled.muxInv (h : t.Settled) (hseq : t.seq.begun = false) : t.MuxInv i where
  legal := h.legal
  outputs := by rw [h.outputs, hseq]; simp
  selecting hbegun := by rw [hseq] at hbegun; cases hbegun
  holding c p fam _ _ label t0 d flag hhold := by rw [hhold] at hseq; cases hseq

theorem State.Opening.muxInv (h : t.Opening) (hseq : t.seq.begun = true) (hi : opens i = true) : t.MuxInv i where
  legal := h.legal
  outputs := by rw [h.outputs, hseq, hi]; simp
  selecting _ _ := h.outputs
  holding c p fam heq := by rw [heq] at hi; cases hi

/-- A command outside the multiplexer and the lifecycle. -/
theorem exec_keeps_muxInv_of_not_movesMux (hi : movesMux i = false) (h : exec i s = .next t) (hs : s.MuxInv i) :
    t.MuxInv i := by
  obtain ⟨hselects, hopens⟩ := selects_opens_of_not_movesMux hi
  have hset : t.Settled := (hs.settled (by simp [hopens])).of_muxPart ((stepped_of_exec h).muxPart hi)
  exact
    { legal := hset.legal
      outputs := by simp [hset.outputs, hopens]
      selecting := fun _ hsel => by simp [hselects] at hsel
      holding := fun c p fam heq => by rw [heq] at hi; cases hi }

theorem execBeginTc_keeps_muxInv (h : execBeginTc s = .next t) (hs : s.MuxInv .beginTc) : t.MuxInv .beginTc := by
  unfold execBeginTc at h
  split at h
  · next hseq =>
    have hset : s.Settled := hs.settled (by simp [hseq, SeqPos.begun])
    split at h <;> cases h
    · exact State.Settled.muxInv (hset.of_muxPart rfl) rfl
    · exact hset.tcOpen.muxInv rfl rfl
  · next raw flag hseq =>
    have hopen : s.Opening := hs.opening (by simp [hseq, SeqPos.begun]) rfl
    cases h
    exact State.Settled.muxInv ((hopen.tcOpened raw).of_muxPart rfl) rfl
  · cases h

theorem execBeginRtd_keeps_muxInv (h : execBeginRtd s = .next t) (hs : s.MuxInv .beginRtd) :
    t.MuxInv .beginRtd := by
  unfold execBeginRtd at h
  split at h
  · next hseq =>
    have hset : s.Settled := hs.settled (by simp [hseq, SeqPos.begun])
    split at h <;> cases h
    · exact State.Settled.muxInv (hset.of_muxPart rfl) rfl
    · exact (hset.rtdOpen 0 false).muxInv rfl rfl
  iterate 6
    · next rx flag hseq =>
      cases h
      exact ((hs.opening (by simp [hseq, SeqPos.begun]) rfl).rtdOpenWrite 0 _ flag).muxInv rfl rfl
  · next rx flag hseq =>
    cases h
    have hopen : s.Opening := hs.opening (by simp [hseq, SeqPos.begun]) rfl
    exact State.Settled.muxInv (hopen.rtdOpened.of_muxPart rfl) rfl
  · cases h

theorem State.Settled.beginRtdPart (hs : s.Settled) (okT : Bool) : (s.beginRtdPart okT).MuxInv .beginBoth := by
  unfold State.beginRtdPart
  split
  · exact State.Settled.muxInv (hs.of_muxPart rfl) rfl
  · exact (hs.rtdOpen 1 okT).muxInv rfl rfl

theorem execBeginBoth_keeps_muxInv (h : execBeginBoth s = .next t) (hs : s.MuxInv .beginBoth) :
    t.MuxInv .beginBoth := by
  unfold execBeginBoth at h
  split at h
  · next hseq =>
    have hset : s.Settled := hs.settled (by simp [hseq, SeqPos.begun])
    split at h <;> cases h
    · exact hset.beginRtdPart true
    · exact hset.tcOpen.muxInv rfl rfl
  · next raw flag hseq =>
    cases h
    have hopen : s.Opening := hs.opening (by simp [hseq, SeqPos.begun]) rfl
    exact (hopen.tcOpened raw).beginRtdPart _
  iterate 6
    · next rx okT hseq =>
      cases h
      exact ((hs.opening (by simp [hseq, SeqPos.begun]) rfl).rtdOpenWrite 1 _ okT).muxInv rfl rfl
  · next rx okT hseq =>
    cases h
    have hopen : s.Opening := hs.opening (by simp [hseq, SeqPos.begun]) rfl
    exact State.Settled.muxInv (hopen.rtdOpened.of_muxPart rfl) rfl
  · cases h

theorem execEndTc_keeps_muxInv (h : execEndTc s = .next t) (hs : s.MuxInv .endTc) : t.MuxInv .endTc := by
  unfold execEndTc at h
  split at h <;> cases h
  have hset : s.Settled := hs.settled (by simp [opens])
  exact State.Settled.muxInv (hset.tcClose.of_muxPart rfl) rfl

theorem execEndRtd_keeps_muxInv (h : execEndRtd s = .next t) (hs : s.MuxInv .endRtd) : t.MuxInv .endRtd := by
  unfold execEndRtd at h
  split at h <;> cases h
  have hset : s.Settled := hs.settled (by simp [opens])
  exact State.Settled.muxInv (hset.rtdClose.of_muxPart rfl) rfl

theorem execEndBoth_keeps_muxInv (h : execEndBoth s = .next t) (hs : s.MuxInv .endBoth) : t.MuxInv .endBoth := by
  unfold execEndBoth at h
  split at h <;> cases h
  have hset : s.Settled := hs.settled (by simp [opens])
  exact State.Settled.muxInv (hset.tcClose.rtdClose.of_muxPart rfl) rfl

/-! ### The select commands -/

/-- A sub-driver is active, the shared outputs are configured, and the line of the channel is driven. -/
structure State.Connected (s : State) : Prop where
  outputs : s.outCfg = true
  active : (s.tcActive || s.rtdActive) = true
  lines : match s.curChannel with
    | none => s.sel = 0#3
    | some ch => ∃ rev, s.sel = oneHot (physOf ch rev)

theorem State.Connected.settled (h : s.Connected) : s.Settled where
  legal := ⟨h.lines, fun hout => by simp [h.outputs] at hout⟩
  outputs := h.outputs.trans h.active.symm

theorem State.Settled.connected (h : s.Settled) (hout : s.outCfg = true) : s.Connected :=
  ⟨hout, h.outputs ▸ hout, h.legal.lines⟩

/-- A family whose sub-driver is active finds the outputs configured (R108). -/
theorem State.Settled.outCfg_of_familyActive (h : s.Settled) {fam : Family} (hfam : s.familyActive fam = true) :
    s.outCfg = true := by
  cases fam <;> simp_all [State.familyActive, h.outputs]

theorem State.Connected.selectLines (h : s.Connected) (ch : Channel) (rev : Bool) :
    (s.selectLines ch rev).Connected :=
  ⟨h.outputs, h.active, rev, rfl⟩

/-- Where a blocking selection ends or holds, its clauses hold. -/
theorem State.Connected.muxSelEnd (h : s.Connected) {fam : Family} {c : Coded Channel} {p : ProbeType}
    (hfam : familyOf p = some fam) : (s.muxSelEnd fam).MuxInv (.muxSel c (.known p)) := by
  obtain ⟨-, heq⟩ | ⟨-, -, heq⟩ | ⟨hstate, -, heq⟩ := s.muxSelEnd_cases fam <;> rw [heq]
  · exact State.Settled.muxInv (h.settled.of_muxPart rfl) rfl
  · exact State.Settled.muxInv (State.Connected.settled ⟨h.outputs, h.active, h.lines⟩) rfl
  · have hset := State.Connected.settled (s := { s with seq := .hold 2 s.muxTs (s.params.settle fam) false })
      ⟨h.outputs, h.active, h.lines⟩
    refine ⟨hset.legal, by simp [h.settled.outputs, opens], fun _ _ => h.outputs, ?_⟩
    intro c' p' fam' hi hfam' label t0 d flag hhold
    cases hi
    cases hhold
    rw [hfam] at hfam'
    cases hfam'
    exact ⟨rfl, rfl, hstate⟩

theorem State.Connected.muxSelAsyncEnd (h : s.Connected) (fam : Family) : (s.muxSelAsyncEnd fam).MuxInv i := by
  obtain ⟨-, heq⟩ | ⟨-, -, heq⟩ | ⟨-, -, heq⟩ := s.muxSelAsyncEnd_cases fam <;> rw [heq]
  · exact State.Settled.muxInv (h.settled.of_muxPart rfl) rfl
  · exact State.Settled.muxInv (State.Connected.settled ⟨h.outputs, h.active, h.lines⟩) rfl
  · exact State.Settled.muxInv (h.settled.of_muxPart rfl) rfl

/-- After the write that reprograms an RTD probe. -/
theorem State.Connected.sent (h : s.Connected) (hi : opens i = false) {chip : Chip} {mosi : List Byte} {label : Nat}
    {rx : Word} {flag : Bool} : (s.send chip mosi (.sent label rx flag)).MuxInv i := by
  have hset := h.settled.of_muxPart (send_muxPart chip mosi (.sent label rx flag) s)
  refine ⟨hset.legal, by simp [h.settled.outputs, hi], fun _ _ => by simp [h.outputs], ?_⟩
  intro c p fam _ _ label t0 d flag hhold
  rw [State.send_seq] at hhold
  cases hhold

/-- What the set-up leaves before the lines are driven has the outputs configured (R106). -/
theorem State.Connected.setup (h : s.Connected) (ch : Channel) (p : ProbeType) (fam : Family) :
    (s.muxSetup ch p fam).2 = false → (s.muxSetup ch p fam).1.Connected := by
  obtain ⟨-, -, heq⟩ | ⟨-, -, heq⟩ | ⟨-, heq⟩ := s.muxSetup_cases ch p fam <;> rw [heq] <;> intro hsent
  · cases hsent
  · exact ⟨h.outputs, h.active, h.lines⟩
  · exact ⟨h.outputs, h.active, h.lines⟩

theorem State.Connected.setup_sent (h : s.Connected) (hi : opens i = false) (ch : Channel) (p : ProbeType)
    (fam : Family) : (s.muxSetup ch p fam).2 = true → (s.muxSetup ch p fam).1.MuxInv i := by
  obtain ⟨-, -, heq⟩ | ⟨-, -, heq⟩ | ⟨-, heq⟩ := s.muxSetup_cases ch p fam <;> rw [heq] <;> intro hsent
  · exact State.Connected.sent (s := (s.setRoute fam).rtdType p) ⟨h.outputs, h.active, h.lines⟩ hi
  · cases hsent
  · cases hsent

theorem execMuxSel_keeps_muxInv {channel : Coded Channel} {probe : Coded ProbeType}
    (h : execMuxSel channel probe s = .next t) (hfits : SeqFits s.params (.muxSel channel probe) s.seq = true)
    (hs : s.MuxInv (.muxSel channel probe)) : t.MuxInv (.muxSel channel probe) := by
  have hset : s.Settled := hs.settled (by simp [opens])
  have hconn (hbegun : s.seq.begun = true) : s.Connected := hset.connected (hs.selecting hbegun rfl)
  unfold execMuxSel at h
  split at h
  · split at h
    · cases h
      exact State.Settled.muxInv (hset.of_muxPart rfl) rfl
    · cases h
      exact State.Settled.muxInv (hset.of_muxPart rfl) rfl
    · next ch p fam hreq =>
      obtain ⟨rfl, rfl, hfam, hactive, -⟩ := State.muxRequest_select hreq
      have hstart : s.Connected := hset.connected (hset.outCfg_of_familyActive hactive)
      dsimp only at h
      split at h
      · next hsent =>
        cases h
        exact hstart.setup_sent rfl ch p fam hsent
      · next hsent =>
        cases h
        exact ((hstart.setup ch p fam (by simpa using hsent)).selectLines ch _).muxSelEnd hfam
  · next rx rev hseq =>
    split at h
    · next ch p =>
      cases h
      have hcache : (s.cacheProbe ch p).Connected :=
        have hc := hconn (by simp [hseq, SeqPos.begun])
        ⟨hc.outputs, hc.active, hc.lines⟩
      have hfam : familyOf p = some .rtd := by
        by_contra hne
        simp [hseq, SeqFits, sentPoints, hne] at hfits
      exact (hcache.selectLines ch rev).muxSelEnd hfam
    · cases h
  · next t0 d flag hseq =>
    obtain ⟨-, rfl⟩ | ⟨-, rfl⟩ := whenElapsed_next.mp h
    · have hc := hconn (by simp [hseq, SeqPos.begun])
      exact State.Settled.muxInv (State.Connected.settled ⟨hc.outputs, hc.active, hc.lines⟩) rfl
    · exact hs
  · cases h

theorem execMuxSelAsync_keeps_muxInv {channel : Coded Channel} {probe : Coded ProbeType}
    (h : execMuxSelAsync channel probe s = .next t) (hs : s.MuxInv (.muxSelAsync channel probe)) :
    t.MuxInv (.muxSelAsync channel probe) := by
  have hset : s.Settled := hs.settled (by simp [opens])
  unfold execMuxSelAsync at h
  split at h
  · split at h
    · cases h
      exact State.Settled.muxInv (hset.of_muxPart rfl) rfl
    · cases h
      exact State.Settled.muxInv (hset.of_muxPart rfl) rfl
    · next ch p fam hreq =>
      obtain ⟨rfl, rfl, hfam, hactive, -⟩ := State.muxRequest_select hreq
      have hstart : s.Connected := hset.connected (hset.outCfg_of_familyActive hactive)
      dsimp only at h
      split at h
      · next hsent =>
        cases h
        exact hstart.setup_sent rfl ch p fam hsent
      · next hsent =>
        cases h
        exact ((hstart.setup ch p fam (by simpa using hsent)).selectLines ch _).muxSelAsyncEnd fam
  · next rx rev hseq =>
    split at h
    · next ch p =>
      cases h
      have hcache : (s.cacheProbe ch p).Connected :=
        have hc := hset.connected (hs.selecting (by simp [hseq, SeqPos.begun]) rfl)
        ⟨hc.outputs, hc.active, hc.lines⟩
      exact (hcache.selectLines ch rev).muxSelAsyncEnd .rtd
    · cases h
  · cases h

/-- Every engine step keeps the clauses about the multiplexer. -/
theorem exec_keeps_muxInv (h : exec i s = .next t) (hfits : SeqFits s.params i s.seq = true) (hs : s.MuxInv i) :
    t.MuxInv i := by
  cases i with
  | muxSel channel probe => exact execMuxSel_keeps_muxInv h hfits hs
  | muxSelAsync channel probe => exact execMuxSelAsync_keeps_muxInv h hs
  | beginTc => exact execBeginTc_keeps_muxInv h hs
  | beginRtd => exact execBeginRtd_keeps_muxInv h hs
  | beginBoth => exact execBeginBoth_keeps_muxInv h hs
  | endTc => exact execEndTc_keeps_muxInv h hs
  | endRtd => exact execEndRtd_keeps_muxInv h hs
  | endBoth => exact execEndBoth_keeps_muxInv h hs
  | _ => exact exec_keeps_muxInv_of_not_movesMux rfl h hs

end
end Sys2Proof.Machine
end

section
open Sys2Proof Sys2Proof.Machine
namespace Sys2Proof.Machine

/-! ### The invariant of the machine -/

section
variable {i : Instr} {s t : State}

theorem State.within_of_decode (hdec : decode s.latch.cmd = .ok i) (kind : Instr → Bool) :
    s.within kind = (s.seq.begun && kind i) := by
  simp [State.within, hdec]

theorem State.within_of_not_begun (hseq : s.seq.begun = false) (kind : Instr → Bool) : s.within kind = false := by
  simp [State.within, hseq]

theorem State.Inv.regs (h : s.Inv) : s.RegsOk := ⟨h.times, h.mirror, h.wire, h.chipSelects⟩

theorem State.Inv.muxInv (h : s.Inv) (hdec : decode s.latch.cmd = .ok i) : s.MuxInv i where
  legal := ⟨h.lines, h.released⟩
  outputs := State.within_of_decode hdec opens ▸ h.outputs
  selecting hbegun hsel := h.selecting (by rw [State.within_of_decode hdec, hbegun, hsel]; rfl)
  holding c p fam hi hfam := h.holding c p fam (hi ▸ hdec) hfam

/-- Between commands, the outputs are configured exactly while a sub-driver is active. -/
theorem State.Inv.settled (h : s.Inv) (hseq : s.seq.begun = false) : s.Settled where
  legal := ⟨h.lines, h.released⟩
  outputs := by rw [h.outputs, State.within_of_not_begun hseq, Bool.or_false]

theorem ne_idle_of_seqFits {c : Params} {pos : SeqPos} (h : SeqFits c i pos = true) : pos ≠ .idle := by
  rintro rfl
  cases h

/-- Every engine step of the latched command keeps the invariant. -/
theorem exec_keeps_inv (hs : s.Inv) (hbusy : s.status.busy = true) (hdec : decode s.latch.cmd = .ok i)
    (h : exec i s = .next t) : t.Inv := by
  have hfits := hs.fits i hdec hbusy
  have hstep := stepped_of_exec h
  have hregs := hstep.regs hs.config hs.regs
  have hmux := exec_keeps_muxInv h hfits (hs.muxInv hdec)
  have hout := hstep.outside
  simp only [State.outside, Prod.mk.injEq] at hout
  obtain ⟨hparams, ⟨hcmd, -⟩, hlatch, -⟩ := hout
  have hdec' : decode t.latch.cmd = .ok i := by rw [hlatch, hdec]
  have hpos : (t.seq = .idle ↔ t.status.busy = false) ∧ t.status.done = !t.status.busy ∧
      (t.status.busy = true → SeqFits t.params i t.seq = true) := by
    rw [hparams]
    obtain ⟨hseq, hb, hd⟩ | ⟨hstatus, hfits'⟩ := hstep.position hfits
    · simp [hseq, hb, hd]
    · rw [hstatus]
      exact ⟨by simp [ne_idle_of_seqFits hfits', hbusy], hs.done_iff, fun _ => hfits'⟩
  obtain ⟨hidle, hdone, hfit⟩ := hpos
  exact
    { config := by rw [hparams, hs.config]
      times := hregs.times
      done_iff := hdone
      idle_iff := hidle
      latched := by rw [hcmd, hlatch, hs.latched]
      fits := by
        intro j hj hb
        obtain rfl : i = j := Except.ok.inj (hdec'.symm.trans hj)
        exact hfit hb
      unassigned := fun e he => by rw [hdec'] at he; cases he
      mirror := hregs.mirror
      wire := hregs.wire
      lines := hmux.legal.lines
      outputs := by rw [State.within_of_decode hdec']; exact hmux.outputs
      selecting := by
        rw [State.within_of_decode hdec', Bool.and_eq_true]
        exact fun hsel => hmux.selecting hsel.1 hsel.2
      holding := by
        intro c p fam hj
        exact hmux.holding c p fam (Except.ok.inj (hdec'.symm.trans hj))
      released := hmux.legal.released
      chipSelects := hregs.chipSelects }

/-- The inputs, the `ARG` registers, `OVR` and the model's own fields are in no clause. -/
theorem State.Inv.of_free (hs : s.Inv)
    (h : t = { s with
      arg0 := t.arg0, arg1 := t.arg1, arg2 := t.arg2, reverse := t.reverse, rst := t.rst, turns := t.turns
      hostData := t.hostData, status := { s.status with ovr := t.status.ovr } }) : t.Inv := by
  rw [h]
  exact ⟨hs.config, hs.times, hs.done_iff, hs.idle_iff, hs.latched, hs.fits, hs.unassigned, hs.mirror, hs.wire,
    hs.lines, hs.outputs, hs.selecting, hs.holding, hs.released, hs.chipSelects⟩

/-- Where no body is under way, the clauses about bodies say nothing. -/
theorem State.Inv.of_settled (hset : t.Settled) (hregs : t.RegsOk) (hconfig : t.params.wf = true)
    (hdone : t.status.done = !t.status.busy) (hseq : t.seq = if t.status.busy then .start else .idle)
    (hlatched : t.cmd = t.latch.cmd) : t.Inv := by
  have hbegun : t.seq.begun = false := by rw [hseq]; split <;> rfl
  exact
    { config := hconfig
      times := hregs.times
      done_iff := hdone
      idle_iff := by rw [hseq]; split <;> simp_all
      latched := hlatched
      fits := fun i _ hb => by rw [hseq, if_pos hb]; rfl
      unassigned := fun e _ hb => by rw [hseq, if_pos hb]
      mirror := hregs.mirror
      wire := hregs.wire
      lines := hset.legal.lines
      outputs := by rw [State.within_of_not_begun hbegun, Bool.or_false]; exact hset.outputs
      selecting := by rw [State.within_of_not_begun hbegun]; exact nofun
      holding := fun c p fam _ _ label t0 d flag hhold => by rw [hhold] at hbegun; cases hbegun
      released := hset.legal.released
      chipSelects := hregs.chipSelects }

/-- An unassigned opcode fails and leaves the rest (30_encoding.md R53). -/
theorem fail_keeps_inv (hs : s.Inv) (hseq : s.seq = .start) (e : CmdError) : (s.fail e).Inv :=
  have hset : s.Settled := hs.settled (by rw [hseq]; rfl)
  .of_settled (hset.of_muxPart rfl) ⟨hs.times, hs.mirror, hs.wire, hs.chipSelects⟩ hs.config rfl rfl hs.latched

theorem clockTick_keeps_inv (hs : s.Inv) : s.clockTick.Inv := by
  have hnow : (s.clockTick).now.toNat < 2 ^ s.params.tw := by
    rw [State.clockTick_now, BitVec.toNat_ofNat]
    exact (Nat.mod_le _ _).trans_lt (Nat.mod_lt _ (Nat.two_pow_pos _))
  exact ⟨hs.config, ⟨hnow, hs.times.2⟩, hs.done_iff, hs.idle_iff, hs.latched, hs.fits, hs.unassigned, hs.mirror,
    hs.wire, hs.lines, hs.outputs, hs.selecting, hs.holding, hs.released, hs.chipSelects⟩

theorem assertReset_keeps_inv (hs : s.Inv) : s.assertReset.Inv := by
  refine .of_settled ⟨⟨rfl, fun _ => ⟨rfl, rfl, rfl, rfl, rfl, rfl⟩⟩, rfl⟩ ?_ hs.config rfl rfl rfl
  refine ⟨⟨hs.times.1, Nat.two_pow_pos _, Nat.two_pow_pos _⟩, BitVec.zero_and, ?_, Level.noConfusion, Level.noConfusion⟩
  simp [State.wire3, hasBits, State.assertReset, State.resetWith]

theorem accept_keeps_inv (hs : s.Inv) (hbusy : s.status.busy = false) (w : Word) : (s.accept w).Inv :=
  have hset : s.Settled := hs.settled (by rw [hs.idle_iff.mpr hbusy]; rfl)
  .of_settled (hset.of_muxPart rfl) ⟨hs.times, hs.mirror, hs.wire, hs.chipSelects⟩ hs.config rfl rfl rfl

theorem hostWrite_keeps_inv (hs : s.Inv) (r : HostReg) (v : Word) : (s.hostWrite r v).Inv := by
  cases r with
  | cmd =>
    change (s.writeCmd v).Inv
    unfold State.writeCmd
    split
    · exact hs.of_free rfl
    · exact accept_keeps_inv hs (by simp_all) v
  | status => exact hs.of_free rfl
  | arg0 => exact hs.of_free rfl
  | arg1 => exact hs.of_free rfl
  | arg2 => exact hs.of_free rfl
  | _ => exact hs

theorem hostWrite_params (r : HostReg) (v : Word) : (s.hostWrite r v).params = s.params := by
  cases r with
  | cmd =>
    change (s.writeCmd v).params = s.params
    unfold State.writeCmd
    split <;> rfl
  | _ => rfl

/-! ### Every step of every agent -/

/-- No fault, and a next state with the invariant and the same configuration. -/
def KeepsInv (s : State) (o : Outcome) : Prop :=
  (∀ f, o ≠ .fault f) ∧ ∀ t, o = .next t → t.Inv ∧ t.params = s.params

theorem keepsInv_next (ht : t.Inv) (hparams : t.params = s.params) : KeepsInv s (.next t) :=
  ⟨fun _ h => (by cases h), fun _ h => by cases h; exact ⟨ht, hparams⟩⟩

theorem keepsInv_refused (why : Refusal) : KeepsInv s (.refused why) :=
  ⟨fun _ h => (by cases h), fun _ h => (by cases h)⟩

theorem engineTurn_keepsInv (hs : s.Inv) : KeepsInv s (engineTurn s) := by
  obtain ⟨-, heq⟩ | ⟨-, hbusy, i, hdec, heq⟩ | ⟨-, hbusy, e, hdec, heq⟩ := engineTurn_cases s <;> rw [heq]
  · exact keepsInv_next hs rfl
  · obtain ⟨t, ht⟩ := exec_isNext (hs.fits i hdec hbusy)
    rw [ht]
    exact keepsInv_next (exec_keeps_inv hs hbusy hdec ht) (congrArg Prod.fst (stepped_of_exec ht).outside)
  · exact keepsInv_next (fail_keeps_inv hs (hs.unassigned e hdec hbusy) .illegal) rfl

theorem hostAccess_keepsInv (hs : s.Inv) (op : HostOp) : KeepsInv s (hostAccess op s) := by
  unfold hostAccess
  cases op with
  | read off width =>
    dsimp only
    split
    · exact keepsInv_next (hs.of_free rfl) rfl
    · exact keepsInv_refused _
    · exact keepsInv_refused _
  | write off width v =>
    dsimp only
    split
    · exact keepsInv_next (hostWrite_keeps_inv hs _ v) (hostWrite_params _ v)
    · exact keepsInv_refused _
    · exact keepsInv_refused _

theorem hostWaitDone_keepsInv (hs : s.Inv) : KeepsInv s (hostWaitDone s) := by
  unfold hostWaitDone
  split_ifs
  · exact keepsInv_refused _
  · exact keepsInv_next (hs.of_free rfl) rfl
  · exact keepsInv_next (hs.of_free rfl) rfl

theorem hostPollOk_keepsInv (hs : s.Inv) (w : Word) : KeepsInv s (hostPollOk w s) := by
  unfold hostPollOk
  split_ifs
  · exact keepsInv_refused _
  · exact keepsInv_next (hs.of_free rfl) rfl
  · exact keepsInv_next (hs.of_free rfl) rfl

theorem takeTurn_keepsInv (hs : s.Inv) (turn : Turn) : KeepsInv s (takeTurn turn s) := by
  cases turn with
  | engine => exact engineTurn_keepsInv hs
  | clock => exact keepsInv_next (clockTick_keeps_inv hs) rfl
  | host op => exact hostAccess_keepsInv hs op
  | board level => exact keepsInv_next (hs.of_free rfl) rfl
  | reset asserted =>
    cases asserted
    · exact keepsInv_next (hs.of_free rfl) rfl
    · exact keepsInv_next (assertReset_keeps_inv hs) rfl
  | waitDone => exact hostWaitDone_keepsInv hs
  | pollOk w => exact hostPollOk_keepsInv hs w

end

/-- Settles O59: a step is one agent's turn, and every turn keeps the invariant. -/
theorem stepKeepsInvariant : Obligations.StepKeepsInvariant := by
  intro s hs
  obtain ⟨-, heq⟩ | ⟨turn, ts, -, heq⟩ := step_eq s <;> rw [heq]
  · exact takeTurn_keepsInv hs s.defaultTurn
  · exact takeTurn_keepsInv (s := { s with turns := ts }) (hs.of_free rfl) turn

end Sys2Proof.Machine
end

section
open Sys2Proof Sys2Proof.Machine
namespace Sys2Proof

/-! ### Magnitudes and their values (00_scope.md R11) -/

/-- The exact value, in units of `2^-149`, of the pattern with these bits below the sign. -/
def Fp.valueOf (mag : Nat) : Nat :=
  if mag / 2 ^ 23 = 0 then mag % 2 ^ 23 else (2 ^ 23 + mag % 2 ^ 23) * 2 ^ (mag / 2 ^ 23 - 1)

/-- Every magnitude is a significand `n` of at most 24 bits over a last place `2^Q`. -/
theorem Fp.exists_significand (mag : Nat) :
    ∃ Q n, mag = Q * 2 ^ 23 + n ∧ n < 2 ^ 24 ∧ (Q = 0 ∨ 2 ^ 23 ≤ n) := by
  by_cases h : mag / 2 ^ 23 = 0
  · exact ⟨0, mag, by simp, by omega, .inl rfl⟩
  · exact ⟨mag / 2 ^ 23 - 1, 2 ^ 23 + mag % 2 ^ 23, by omega, by omega, .inr (by omega)⟩

/-- The value of a significand over a last place; a significand of `2^24` is the carry into the exponent. -/
theorem Fp.valueOf_significand {Q n : Nat} (hn : n ≤ 2 ^ 24) (hQ : Q = 0 ∨ 2 ^ 23 ≤ n) :
    Fp.valueOf (Q * 2 ^ 23 + n) = n * 2 ^ Q := by
  unfold Fp.valueOf
  obtain hlow | hmid | rfl : n < 2 ^ 23 ∨ (2 ^ 23 ≤ n ∧ n < 2 ^ 24) ∨ n = 2 ^ 24 := by omega
  · obtain rfl : Q = 0 := by omega
    rw [if_pos (by omega)]
    omega
  · have hdiv : (Q * 2 ^ 23 + n) / 2 ^ 23 = Q + 1 := by omega
    have hmod : 2 ^ 23 + (Q * 2 ^ 23 + n) % 2 ^ 23 = n := by omega
    rw [hdiv, hmod]
    simp
  · have hdiv : (Q * 2 ^ 23 + 2 ^ 24) / 2 ^ 23 = Q + 2 := by omega
    have hmod : (Q * 2 ^ 23 + 2 ^ 24) % 2 ^ 23 = 0 := by omega
    rw [hdiv, hmod]
    simp [pow_succ]
    ring

theorem Fp.valueOf_strictMono : StrictMono Fp.valueOf := by
  refine strictMono_nat_of_lt_succ fun mag => ?_
  obtain ⟨Q, n, rfl, hn, hQ⟩ := Fp.exists_significand mag
  rw [Nat.add_assoc, Fp.valueOf_significand hn.le hQ, Fp.valueOf_significand hn (by omega)]
  exact Nat.mul_lt_mul_of_pos_right (Nat.lt_succ_self n) (Nat.two_pow_pos Q)

@[simp] theorem Fp.valueOf_zero : Fp.valueOf 0 = 0 := rfl

/-! ### Patterns -/

/-- A pattern is finite exactly below the magnitude of infinity, and then has the value of its magnitude. -/
theorem Fp.scaled_eq (x : Fp) :
    x.scaled = if x.magnitude < 0x7F800000 then some (Fp.signed x.sign (Fp.valueOf x.magnitude) 0) else none := by
  have hexp : x.magnitude / 2 ^ 23 = x.expField := by unfold Fp.magnitude Fp.expField; omega
  have hfrac : x.magnitude % 2 ^ 23 = x.fracField := by unfold Fp.magnitude Fp.fracField; omega
  have hexp_lt : x.expField < 2 ^ 8 := Nat.mod_lt _ (by decide)
  have hplace : ((x.expField : Int) - 150 + 149).toNat = x.expField - 1 := by omega
  unfold Fp.scaled Fp.unpack Fp.valueOf
  rw [hexp, hfrac]
  by_cases htop : x.expField = 255
  · have hlarge : ¬x.magnitude < 0x7F800000 := by omega
    by_cases hinf : x.fracField = 0 <;> simp [htop, hinf, hlarge]
  · have hsmall : x.magnitude < 0x7F800000 := by omega
    by_cases hsub : x.expField = 0 <;> simp [htop, hsub, hsmall, hplace, Fp.signed]

theorem Fp.scaled_eq_some {x : Fp} {v : Int} :
    x.scaled = some v ↔ x.magnitude < 0x7F800000 ∧ v = Fp.signed x.sign (Fp.valueOf x.magnitude) 0 := by
  rw [Fp.scaled_eq]
  split <;> simp_all [eq_comm]

theorem Fp.toNat_eq (x : Fp) : x.toNat = (if x.sign then 2 ^ 31 else 0) + x.magnitude := by
  have := x.isLt
  unfold Fp.sign Fp.magnitude
  rw [BitVec.msb_eq_decide]
  simp only [decide_eq_true_eq]
  split <;> omega

theorem Fp.ofMagnitude_sign_magnitude (x : Fp) : Fp.ofMagnitude x.sign x.magnitude = x := by
  rw [Fp.ofMagnitude, ← Fp.toNat_eq, BitVec.ofNat_toNat, BitVec.setWidth_eq]

theorem Fp.toNat_ofMagnitude (neg : Bool) {mag : Nat} (h : mag < 2 ^ 31) :
    (Fp.ofMagnitude neg mag).toNat = (if neg then 2 ^ 31 else 0) + mag := by
  rw [Fp.ofMagnitude, BitVec.toNat_ofNat]
  split <;> omega

theorem Fp.magnitude_ofMagnitude (neg : Bool) {mag : Nat} (h : mag < 2 ^ 31) :
    (Fp.ofMagnitude neg mag).magnitude = mag := by
  rw [Fp.magnitude, Fp.toNat_ofMagnitude neg h]
  split <;> omega

theorem Fp.sign_ofMagnitude (neg : Bool) {mag : Nat} (h : mag < 2 ^ 31) : (Fp.ofMagnitude neg mag).sign = neg := by
  rw [Fp.sign, BitVec.msb_eq_decide, Fp.toNat_ofMagnitude neg h]
  cases neg
  · simpa using h
  · simp

/-! ### The integer nearest to a quotient -/

/-- `n` is the integer nearest to `M / u`, and the even one of two. -/
structure Fp.NearestEven (n M u : Nat) : Prop where
  above : 2 * (n * u) ≤ 2 * M + u
  below : 2 * M ≤ 2 * (n * u) + u
  tie : 2 * (n * u) = 2 * M + u ∨ 2 * M = 2 * (n * u) + u → n % 2 = 0

theorem Fp.NearestEven.of_eq {n M u : Nat} (hu : 0 < u) (h : n * u = M) : Fp.NearestEven n M u :=
  ⟨by omega, by omega, by omega⟩

theorem Fp.NearestEven.scale {n M u : Nat} (h : Fp.NearestEven n M u) {c : Nat} (hc : 0 < c) :
    Fp.NearestEven n (M * c) (u * c) := by
  have habove := Nat.mul_le_mul_right c h.above
  have hbelow := Nat.mul_le_mul_right c h.below
  refine ⟨by linarith, by linarith, fun htie => h.tie (htie.imp (fun heq => ?_) fun heq => ?_)⟩
  · exact Nat.eq_of_mul_eq_mul_right hc (by linarith)
  · exact Nat.eq_of_mul_eq_mul_right hc (by linarith)

theorem Fp.shiftRne_nearest (m j : Nat) : Fp.NearestEven (Fp.shiftRne m j) m (2 ^ j) := by
  unfold Fp.shiftRne
  have hdiv := Nat.div_add_mod' m (2 ^ j)
  have hmod := Nat.mod_lt m (Nat.two_pow_pos j)
  generalize m / 2 ^ j = q at *
  generalize m % 2 ^ j = r at *
  generalize 2 ^ j = d at *
  dsimp only
  split_ifs with hup htie
  · have hexpand : (q + 1) * d = q * d + d := by ring
    constructor <;> omega
  · have heven : (q + q % 2) % 2 = 0 := by omega
    have hexpand : (q + q % 2) * d = q * d ∨ (q + q % 2) * d = q * d + d := by
      obtain h | h : q % 2 = 0 ∨ q % 2 = 1 := by omega
      · left; rw [h, Nat.add_zero]
      · right; rw [h]; ring
    refine ⟨by omega, by omega, fun _ => heven⟩
  · constructor <;> omega

end Sys2Proof
end

section
open Sys2Proof Sys2Proof.Machine
namespace Sys2Proof

/-! ### What rounding does (00_scope.md R11, 45_decode_pipeline.md R119) -/

/-- `n` over the last place `2^Q` is the significand that rounding makes of `M` units of `2^(-149-k)`. -/
structure Fp.Rounds (Q n k M : Nat) : Prop where
  nearest : Fp.NearestEven n M (2 ^ (Q + k))
  low : Q = 0 ∨ 2 ^ 23 * 2 ^ (Q + k) ≤ M
  high : M < 2 ^ 24 * 2 ^ (Q + k)

theorem Fp.Rounds.significand {Q n k M : Nat} (h : Fp.Rounds Q n k M) : n ≤ 2 ^ 24 ∧ (Q = 0 ∨ 2 ^ 23 ≤ n) := by
  have hpos := Nat.two_pow_pos (Q + k)
  obtain ⟨habove, hbelow, -⟩ := h.nearest
  have hhigh := h.high
  have hlow := h.low
  generalize 2 ^ (Q + k) = u at *
  refine ⟨?_, hlow.imp_right fun hle => ?_⟩
  · by_contra hgt
    have : (2 ^ 24 + 1) * u ≤ n * u := Nat.mul_le_mul_right u (by omega)
    omega
  · by_contra hlt
    have : n * u ≤ (2 ^ 23 - 1) * u := Nat.mul_le_mul_right u (by omega)
    omega

/-- `m * 2^e` in units of `2^(-149-k)`, between the powers of two of its leading bit. -/
theorem Fp.two_pow_log2_le {m : Nat} (hm : m ≠ 0) (j : Nat) :
    2 ^ (m.log2 + j) ≤ m * 2 ^ j ∧ m * 2 ^ j < 2 ^ (m.log2 + 1 + j) := by
  rw [pow_add, pow_add]
  exact ⟨Nat.mul_le_mul_right _ (Nat.log2_self_le hm), Nat.mul_lt_mul_of_pos_right Nat.lt_log2_self (Nat.two_pow_pos j)⟩

theorem Fp.round_eq (neg : Bool) (m : Nat) (e : Int) :
    ∃ Q n, Fp.round neg m e = Fp.ofMagnitude neg (min (Q * 2 ^ 23 + n) 0x7F800000) ∧
      ∀ k : Nat, 0 ≤ e + 149 + k → Fp.Rounds Q n k (m * 2 ^ (e + 149 + k).toNat) := by
  unfold Fp.round
  split
  · next hm =>
    subst hm
    refine ⟨0, 0, rfl, fun k _ => ⟨.of_eq (Nat.two_pow_pos _) (by simp), .inl rfl, by simp⟩⟩
  · next hm =>
    dsimp only
    generalize hq : max ((m.log2 : Int) + e - 23) (-149) = q
    refine ⟨(q + 149).toNat, _, rfl, fun k hk => ⟨?_, ?_, ?_⟩⟩
    · split
      · next hle =>
        refine .of_eq (Nat.two_pow_pos _) ?_
        rw [Nat.mul_assoc, ← pow_add]
        congr 2
        omega
      · next hlt =>
        have hexp : (q + 149).toNat + k = (q - e).toNat + (e + 149 + k).toNat := by omega
        rw [hexp, pow_add]
        exact (Fp.shiftRne_nearest m (q - e).toNat).scale (Nat.two_pow_pos _)
    · by_cases hQ : (q + 149).toNat = 0
      · exact .inl hQ
      · right
        rw [← pow_add]
        refine (Nat.pow_le_pow_right (by decide) ?_).trans (Fp.two_pow_log2_le hm _).1
        omega
    · rw [← pow_add]
      refine (Fp.two_pow_log2_le hm _).2.trans_le (Nat.pow_le_pow_right (by decide) ?_)
      omega

/-- A finite value is a multiple of a last place, or lies below every value with that last place. -/
theorem Fp.valueOf_grid (mag Q : Nat) : 2 ^ Q ∣ Fp.valueOf mag ∨ Fp.valueOf mag < 2 ^ 23 * 2 ^ Q := by
  obtain ⟨Q', n, rfl, hn, hQ'⟩ := Fp.exists_significand mag
  rw [Fp.valueOf_significand hn.le hQ']
  by_cases hle : Q ≤ Q'
  · exact .inl (Dvd.dvd.mul_left (pow_dvd_pow 2 hle) n)
  · right
    calc n * 2 ^ Q' < 2 ^ 24 * 2 ^ Q' := Nat.mul_lt_mul_of_pos_right hn (Nat.two_pow_pos Q')
      _ = 2 ^ 23 * 2 ^ (Q' + 1) := by ring
      _ ≤ 2 ^ 23 * 2 ^ Q := Nat.mul_le_mul_left _ (Nat.pow_le_pow_right (by decide) (by omega))

/-- No multiple of `u` is nearer to `M` than `n * u`, and one as near leaves `n` even. -/
theorem Fp.NearestEven.dist_le_multiple {n M u : Nat} (h : Fp.NearestEven n M u) (z : Int) :
    ((n * u : Nat) - (M : Int)).natAbs ≤ (z * u - M).natAbs ∧
      (z * u ≠ (n * u : Nat) → (z * u - M).natAbs = ((n * u : Nat) - (M : Int)).natAbs → n % 2 = 0) := by
  obtain ⟨habove, hbelow, htie⟩ := h
  have hgap : z * u = (n * u : Nat) ∨ (n * u : Nat) + (u : Int) ≤ z * u ∨ z * u ≤ (n * u : Nat) - (u : Int) := by
    have hu : (0 : Int) ≤ u := Int.natCast_nonneg u
    push_cast
    obtain hlt | rfl | hgt := lt_trichotomy z n
    · have := mul_le_mul_of_nonneg_right (show z + 1 ≤ n from hlt) hu
      right; right; linarith
    · exact .inl rfl
    · have := mul_le_mul_of_nonneg_right (show (n : Int) + 1 ≤ z from hgt) hu
      right; left; linarith
  generalize z * (u : Int) = w at *
  generalize n * u = N at *
  omega

/-- Nor is any value of the grid of finite values. -/
theorem Fp.Rounds.dist_le {Q n k M : Nat} (h : Fp.Rounds Q n k M) {v : Int}
    (hv : (2 ^ Q : Int) ∣ v ∨ v.natAbs < 2 ^ 23 * 2 ^ Q) :
    ((n * 2 ^ (Q + k) : Nat) - (M : Int)).natAbs ≤ (v * 2 ^ k - M).natAbs ∧
      (v * 2 ^ k ≠ (n * 2 ^ (Q + k) : Nat) →
        (v * 2 ^ k - M).natAbs = ((n * 2 ^ (Q + k) : Nat) - (M : Int)).natAbs → n % 2 = 0) := by
  have hmult := h.nearest.dist_le_multiple
  obtain ⟨z, rfl⟩ | hsmall := hv
  · have hz : 2 ^ Q * z * 2 ^ k = z * (2 ^ (Q + k) : Nat) := by push_cast; ring
    rw [hz]
    exact hmult z
  · obtain hQ | hlow := h.low
    · obtain rfl := hQ
      have hv : v * 2 ^ k = v * (2 ^ (0 + k) : Nat) := by push_cast; ring
      rw [hv]
      exact hmult v
    · have hbound : (v * 2 ^ k).natAbs < 2 ^ 23 * 2 ^ (Q + k) := by
        rw [Int.natAbs_mul, Int.natAbs_pow, pow_add, ← Nat.mul_assoc]
        exact Nat.mul_lt_mul_of_pos_right hsmall (Nat.two_pow_pos k)
      have hedge := (hmult (2 ^ 23)).1
      generalize v * 2 ^ k = w at *
      generalize n * 2 ^ (Q + k) = N at *
      generalize 2 ^ (Q + k) = u at *
      omega

theorem Fp.signed_eq_mul (neg : Bool) (m j : Nat) :
    Fp.signed neg m j = (if neg then -1 else 1) * ((m * 2 ^ j : Nat) : Int) := by
  cases neg <;> simp [Fp.signed]

theorem Fp.natAbs_signed (neg : Bool) (m j : Nat) : (Fp.signed neg m j).natAbs = m * 2 ^ j := by
  cases neg <;> simp [Fp.signed, Int.natAbs_mul, Int.natAbs_pow]

/-- Turning both signs over keeps a distance. -/
theorem Fp.natAbs_sub_signed (neg : Bool) (w : Int) (m j : Nat) :
    (w - Fp.signed neg m j).natAbs = ((if neg then -w else w) - ((m * 2 ^ j : Nat) : Int)).natAbs := by
  cases neg <;> simp only [Fp.signed, if_true, if_false, Bool.false_eq_true]
  omega

/-- From the midpoint above the largest finite value upward rounding reaches the magnitude of infinity, and only
there. -/
theorem Fp.Rounds.overflow_iff {Q n k M : Nat} (h : Fp.Rounds Q n k M) :
    0x7F800000 ≤ Q * 2 ^ 23 + n ↔ (2 ^ 25 - 1) * 2 ^ (252 + k) ≤ M := by
  obtain ⟨hn, hQ⟩ := h.significand
  obtain ⟨⟨habove, hbelow, htie⟩, hlow, hhigh⟩ := h
  have hpos := Nat.two_pow_pos (252 + k)
  obtain hsmall | rfl | hlarge : Q ≤ 252 ∨ Q = 253 ∨ 254 ≤ Q := by omega
  · have : 2 ^ (Q + k) ≤ 2 ^ (252 + k) := Nat.pow_le_pow_right (by decide) (by omega)
    omega
  · have hu : 2 ^ (253 + k) = 2 * 2 ^ (252 + k) := by ring
    rw [hu] at habove hbelow htie hhigh
    have hprod : n * (2 * 2 ^ (252 + k)) = 2 * (n * 2 ^ (252 + k)) := by ring
    rw [hprod] at habove hbelow htie
    generalize 2 ^ (252 + k) = c at *
    obtain hlt | rfl | rfl : n ≤ 2 ^ 24 - 2 ∨ n = 2 ^ 24 - 1 ∨ n = 2 ^ 24 := by omega
    · have := Nat.mul_le_mul_right c hlt
      omega
    · omega
    · omega
  · have : 4 * 2 ^ (252 + k) ≤ 2 ^ (Q + k) := by
      have hfour : 4 * 2 ^ (252 + k) = 2 ^ (254 + k) := by ring
      rw [hfour]
      exact Nat.pow_le_pow_right (by decide) (by omega)
    omega

theorem Fp.round_sign (neg : Bool) (m : Nat) (e : Int) : (Fp.round neg m e).sign = neg := by
  obtain ⟨Q, n, heq, -⟩ := Fp.round_eq neg m e
  rw [heq]
  exact Fp.sign_ofMagnitude neg (by omega)

/-- A finite rounded value. -/
theorem Fp.round_finite (neg : Bool) {m k : Nat} {e : Int} (hk : 0 ≤ e + 149 + k)
    (hM : m * 2 ^ (e + 149 + k).toNat < (2 ^ 25 - 1) * 2 ^ (252 + k)) :
    ∃ Q n, Fp.Rounds Q n k (m * 2 ^ (e + 149 + k).toNat) ∧
      Fp.round neg m e = Fp.ofMagnitude neg (Q * 2 ^ 23 + n) ∧
      (Fp.round neg m e).scaled = some (Fp.signed neg n Q) := by
  obtain ⟨Q, n, heq, hrounds⟩ := Fp.round_eq neg m e
  have h := hrounds k hk
  have hfin : Q * 2 ^ 23 + n < 0x7F800000 := by
    rw [← Nat.not_le, h.overflow_iff]
    exact Nat.not_le.mpr hM
  rw [Nat.min_eq_left hfin.le] at heq
  refine ⟨Q, n, h, heq, ?_⟩
  rw [Fp.scaled_eq_some, heq, Fp.sign_ofMagnitude neg (by omega), Fp.magnitude_ofMagnitude neg (by omega)]
  obtain ⟨hn, hQ⟩ := h.significand
  exact ⟨hfin, by rw [Fp.valueOf_significand hn hQ]; simp [Fp.signed]⟩

/-- Beyond, the infinity of its sign. -/
theorem Fp.round_infinite (neg : Bool) {m k : Nat} {e : Int} (hk : 0 ≤ e + 149 + k)
    (hM : (2 ^ 25 - 1) * 2 ^ (252 + k) ≤ m * 2 ^ (e + 149 + k).toNat) : Fp.round neg m e = Fp.inf neg := by
  obtain ⟨Q, n, heq, hrounds⟩ := Fp.round_eq neg m e
  rw [heq, Nat.min_eq_right ((hrounds k hk).overflow_iff.mpr hM)]
  rfl

theorem Fp.scaled_inf (neg : Bool) : (Fp.inf neg).scaled = none := by cases neg <;> rfl

theorem Fp.getLsbD_zero_ofMagnitude (neg : Bool) (Q n : Nat) (hn : n % 2 = 0) :
    (Fp.ofMagnitude neg (Q * 2 ^ 23 + n)).getLsbD 0 = false := by
  rw [Fp.ofMagnitude, BitVec.getLsbD_ofNat]
  cases neg <;> simp <;> omega

/-- The finite values lie on the grid of every last place, or below it. -/
theorem Fp.scaled_grid {y : Fp} {v : Int} (hv : y.scaled = some v) (Q : Nat) :
    (2 ^ Q : Int) ∣ v ∨ v.natAbs < 2 ^ 23 * 2 ^ Q := by
  obtain ⟨-, rfl⟩ := Fp.scaled_eq_some.mp hv
  rw [Fp.natAbs_signed, pow_zero, Nat.mul_one]
  refine (Fp.valueOf_grid y.magnitude Q).imp_left fun hdvd => ?_
  rw [Fp.signed_eq_mul, pow_zero, Nat.mul_one]
  exact Dvd.dvd.mul_left (by exact_mod_cast hdvd) _

/-- Settles O56: the significand is the integer nearest to the exact value over the last place, and every finite value
lies on the grid of that last place or below all values with it. -/
theorem roundIsNearest : Obligations.RoundIsNearest := by
  intro neg m k e hk
  refine ⟨?_, fun hM => ?_, fun hM => ?_, Fp.round_sign neg m e⟩
  · intro r hr y v hv
    have hM : m * 2 ^ (e + 149 + k).toNat < (2 ^ 25 - 1) * 2 ^ (252 + k) := by
      by_contra hge
      rw [Fp.round_infinite neg hk (Nat.not_lt.mp hge), Fp.scaled_inf] at hr
      cases hr
    obtain ⟨Q, n, h, heq, hscaled⟩ := Fp.round_finite neg hk hM
    obtain rfl : Fp.signed neg n Q = r := Option.some.inj (hscaled.symm.trans hr)
    have hgrid : (2 ^ Q : Int) ∣ (if neg then -v else v) ∨ (if neg then -v else v).natAbs < 2 ^ 23 * 2 ^ Q := by
      cases neg <;> simpa using Fp.scaled_grid hv Q
    obtain ⟨hdist, htie⟩ := h.dist_le hgrid
    have hr_dist : (if neg then -(Fp.signed neg n Q * 2 ^ k) else Fp.signed neg n Q * 2 ^ k) =
        ((n * 2 ^ (Q + k) : Nat) : Int) := by
      cases neg <;> simp [Fp.signed, pow_add, mul_assoc]
    have hv_dist : (if neg then -(v * 2 ^ k) else v * 2 ^ k) = (if neg then -v else v) * 2 ^ k := by
      cases neg <;> simp
    rw [Fp.natAbs_sub_signed, Fp.natAbs_sub_signed, hr_dist, hv_dist]
    refine ⟨hdist, fun hne heqdist => ?_⟩
    rw [heq]
    refine Fp.getLsbD_zero_ofMagnitude neg Q n (htie (fun hsame => hne ?_) heqdist)
    rw [← hv_dist, ← hr_dist] at hsame
    have htwo : (2 : Int) ^ k ≠ 0 := by positivity
    cases neg <;> simpa [htwo] using hsame
  · rw [Fp.round_infinite neg hk hM]
    cases neg <;> rfl
  · obtain ⟨Q, n, -, -, hscaled⟩ := Fp.round_finite neg hk hM
    rw [hscaled]
    rfl

/-! ### Comparisons (R11) -/

theorem Fp.isNaN_of_scaled {x : Fp} {a : Int} (h : x.scaled = some a) : x.isNaN = false := by
  have hfin := (Fp.scaled_eq_some.mp h).1
  simp only [Fp.isNaN, decide_eq_false_iff_not]
  omega

/-- The key orders finite patterns as their values are ordered. -/
theorem Fp.key_lt_iff {x y : Fp} {a b : Int} (hx : x.scaled = some a) (hy : y.scaled = some b) :
    y.key < x.key ↔ b < a := by
  obtain ⟨-, rfl⟩ := Fp.scaled_eq_some.mp hx
  obtain ⟨-, rfl⟩ := Fp.scaled_eq_some.mp hy
  have hxy := Fp.valueOf_strictMono.lt_iff_lt (a := x.magnitude) (b := y.magnitude)
  have hyx := Fp.valueOf_strictMono.lt_iff_lt (a := y.magnitude) (b := x.magnitude)
  have hx0 := Fp.valueOf_strictMono.lt_iff_lt (a := 0) (b := x.magnitude)
  have hy0 := Fp.valueOf_strictMono.lt_iff_lt (a := 0) (b := y.magnitude)
  rw [Fp.valueOf_zero] at hx0 hy0
  unfold Fp.key Fp.signed
  rw [pow_zero, Nat.mul_one, Nat.mul_one]
  generalize Fp.valueOf x.magnitude = vx at *
  generalize Fp.valueOf y.magnitude = vy at *
  split_ifs <;> omega

theorem Fp.abs_key_of_scaled {x : Fp} {a : Int} (h : x.scaled = some a) :
    -0x7F800000 < x.key ∧ x.key < 0x7F800000 := by
  have hfin := (Fp.scaled_eq_some.mp h).1
  unfold Fp.key
  split_ifs <;> omega

theorem Fp.compare_of_scaled {x y : Fp} {a b : Int} (hx : x.scaled = some a) (hy : y.scaled = some b) :
    Fp.gt x y = decide (b < a) ∧ Fp.ge x y = decide (b ≤ a) := by
  have hlt := Fp.key_lt_iff hx hy
  have hle : y.key ≤ x.key ↔ b ≤ a := by rw [← not_lt, ← not_lt, Fp.key_lt_iff hy hx]
  simp [Fp.gt, Fp.ge, Fp.isNaN_of_scaled hx, Fp.isNaN_of_scaled hy, hlt, hle]

/-- Every finite value lies strictly between the infinities. -/
theorem Fp.compare_infinities {y : Fp} {b : Int} (hy : y.scaled = some b) :
    Fp.gt 0x7F800000#32 y = true ∧ Fp.ge 0x7F800000#32 y = true ∧ Fp.gt y 0x7F800000#32 = false ∧
      Fp.ge y 0x7F800000#32 = false ∧ Fp.gt y 0xFF800000#32 = true ∧ Fp.ge y 0xFF800000#32 = true ∧
      Fp.gt 0xFF800000#32 y = false ∧ Fp.ge 0xFF800000#32 y = false := by
  obtain ⟨hbottom, htop⟩ := Fp.abs_key_of_scaled hy
  have hkeys : Fp.key 0x7F800000#32 = 0x7F800000 ∧ Fp.key 0xFF800000#32 = -0x7F800000 := by decide
  have hnan : Fp.isNaN 0x7F800000#32 = false ∧ Fp.isNaN 0xFF800000#32 = false := by decide
  simp only [Fp.gt, Fp.ge, Fp.isNaN_of_scaled hy, hkeys, hnan, Bool.not_false, Bool.true_and, decide_eq_true_eq,
    decide_eq_false_iff_not]
  omega

theorem Fp.compare_nan {x y : Fp} (h : x.isNaN = true ∨ y.isNaN = true) : Fp.gt x y = false ∧ Fp.ge x y = false := by
  obtain h | h := h <;> simp [Fp.gt, Fp.ge, h]

/-! ### Rounding the value of a pattern -/

/-- Two finite patterns of one sign and one value are the same. -/
theorem Fp.eq_of_scaled {x y : Fp} {v : Int} (hsign : x.sign = y.sign) (hx : x.scaled = some v)
    (hy : y.scaled = some v) : x = y := by
  obtain ⟨-, hxv⟩ := Fp.scaled_eq_some.mp hx
  obtain ⟨-, hyv⟩ := Fp.scaled_eq_some.mp hy
  have habs := congrArg Int.natAbs (hxv.symm.trans hyv)
  rw [Fp.natAbs_signed, Fp.natAbs_signed, pow_zero, Nat.mul_one, Nat.mul_one] at habs
  rw [← Fp.ofMagnitude_sign_magnitude x, ← Fp.ofMagnitude_sign_magnitude y, hsign,
    Fp.valueOf_strictMono.injective habs]

/-- A finite value lies below the midpoint from which rounding overflows. -/
theorem Fp.valueOf_lt_overflow {mag : Nat} (h : mag < 0x7F800000) : Fp.valueOf mag < (2 ^ 25 - 1) * 2 ^ 252 :=
  calc Fp.valueOf mag ≤ Fp.valueOf (253 * 2 ^ 23 + (2 ^ 24 - 1)) := Fp.valueOf_strictMono.monotone (by omega)
    _ = (2 ^ 24 - 1) * 2 ^ 253 := Fp.valueOf_significand (by decide) (.inr (by decide))
    _ < (2 ^ 25 - 1) * 2 ^ 252 := by norm_num

theorem Fp.unpack_fin {x : Fp} {neg : Bool} {m : Nat} {e : Int} (h : x.unpack = .fin neg m e) :
    x.sign = neg ∧ 0 ≤ e + 149 ∧ x.scaled = some (Fp.signed neg m (e + 149).toNat) := by
  refine ⟨?_, ?_, by rw [Fp.scaled, h]⟩
  all_goals
    unfold Fp.unpack at h
    split_ifs at h <;> cases h
  · rfl
  · rfl
  · decide
  · omega

/-- The rounded value is at distance 0 from the exact one, which the pattern itself has. -/
theorem Fp.round_of_unpack {x : Fp} {neg : Bool} {m : Nat} {e : Int} (h : x.unpack = .fin neg m e) :
    Fp.round neg m e = x := by
  obtain ⟨hsign, he, hscaled⟩ := Fp.unpack_fin h
  have hfin : m * 2 ^ (e + 149).toNat < (2 ^ 25 - 1) * 2 ^ 252 := by
    obtain ⟨hmag, hvalue⟩ := Fp.scaled_eq_some.mp hscaled
    have habs := congrArg Int.natAbs hvalue
    rw [Fp.natAbs_signed, Fp.natAbs_signed, pow_zero, Nat.mul_one] at habs
    rw [habs]
    exact Fp.valueOf_lt_overflow hmag
  obtain ⟨hnearest, -, hsome, hround_sign⟩ := roundIsNearest neg m 0 e (by simpa using he)
  obtain ⟨r, hr⟩ := Option.isSome_iff_exists.mp (hsome (by simpa using hfin))
  have hdist := (hnearest r hr x _ hscaled).1
  obtain rfl : r = Fp.signed neg m (e + 149).toNat := by simpa [sub_eq_zero] using hdist
  exact Fp.eq_of_scaled (hround_sign.trans hsign.symm) hr hscaled

/-- Settles O57, the round trip from `roundIsNearest`. -/
theorem roundOfUnpack : Obligations.RoundOfUnpack := by
  refine ⟨fun x neg m e => Fp.round_of_unpack, fun x y a b => Fp.compare_of_scaled, ⟨?_, by decide⟩, ?_⟩
  · exact fun y b => Fp.compare_infinities
  · exact fun x y => Fp.compare_nan

end Sys2Proof
end

section
open Sys2Proof Sys2Proof.Machine
namespace Sys2Proof.Machine

/-! ### Host accesses as turns (20_memory.md R32 to R34) -/

section
variable {off : Nat} {r : HostReg} {s : State}

theorem takeTurn_read (hrst : s.rst = false) (hreg : hostReg off = some r) :
    takeTurn (.host (.read off 4)) s = .next { s with hostData := some (s.hostRead r) } :=
  hostAccess_read hrst hreg

theorem takeTurn_write (hrst : s.rst = false) (hreg : hostReg off = some r) (v : Word) :
    takeTurn (.host (.write off 4 v)) s = .next (s.hostWrite r v) :=
  hostAccess_write hrst hreg

theorem State.writeCmd_of_idle (h : s.status.busy = false) (w : Word) : s.writeCmd w = s.accept w := by
  simp [State.writeCmd, h]

theorem State.writeCmd_of_busy (h : s.status.busy = true) (w : Word) :
    s.writeCmd w = { s with status := s.status.overrun } := by
  simp [State.writeCmd, h]

end

/-- Settles O7: a read delivers the register; a write is a submission, or an overrun while `BUSY`. -/
theorem cmdSubmission : Obligations.CmdSubmission := by
  refine ⟨rfl, fun s w hrst => ⟨takeTurn_read (r := .cmd) hrst rfl, fun hidle => ?_, fun hbusy => ?_⟩⟩
  · rw [takeTurn_write (r := .cmd) hrst rfl]
    exact congrArg Host.Outcome.next (State.writeCmd_of_idle hidle w)
  · rw [takeTurn_write (r := .cmd) hrst rfl]
    exact congrArg Host.Outcome.next (State.writeCmd_of_busy hbusy w)

/-- Which flag each bit of `STATUS` shows (R16). -/
theorem Status.getLsbD_word (st : Status) (n : Nat) :
    st.word.getLsbD n =
      (decide (n = 0) && st.busy || decide (n = 1) && st.done || decide (n = 2) && st.ok ||
        decide (n = 3) && st.errIllegal || decide (n = 4) && st.errArg || decide (n = 5) && st.errInactive ||
        decide (n = 8) && st.ovr) := by
  change BitVec.getLsbD (w := 23 + 1 + 2 + 1 + 1 + 1 + 1 + 1 + 1) st.word n = _
  unfold Status.word
  simp only [BitVec.getLsbD_append, BitVec.getLsbD_ofBool, BitVec.getLsbD_zero]
  match n with
  | 0 | 1 | 2 | 3 | 4 | 5 | 6 | 7 | 8 => simp
  | k + 9 => simp

/-- Settles O9. -/
theorem statusRegister : Obligations.StatusRegister := by
  refine ⟨fun st => ?_, fun s v hrst => ⟨takeTurn_read (r := .status) hrst rfl, takeTurn_write (r := .status) hrst rfl v⟩⟩
  simp only [Status.getLsbD_word]
  refine ⟨by simp, by simp, by simp, by simp, by simp, by simp, by simp, fun n hn => ?_⟩
  have : n ≠ 0 ∧ n ≠ 1 ∧ n ≠ 2 ∧ n ≠ 3 ∧ n ≠ 4 ∧ n ≠ 5 ∧ n ≠ 8 := by omega
  simp [this]

theorem State.hostWrite_now (r : HostReg) (v : Word) (s : State) : (s.hostWrite r v).now = s.now := by
  cases r with
  | cmd =>
    change (s.writeCmd v).now = s.now
    unfold State.writeCmd
    split <;> rfl
  | _ => rfl

theorem exec_now {i : Instr} {s t : State} (h : exec i s = .next t) : t.now = s.now := by
  have hout := (stepped_of_exec h).outside
  simp only [State.outside, Prod.mk.injEq] at hout
  obtain ⟨-, -, -, ⟨hnow, -⟩, -⟩ := hout
  exact hnow

theorem engineTurn_now {s t : State} (h : engineTurn s = .next t) : t.now = s.now := by
  obtain ⟨-, heq⟩ | ⟨-, -, i, -, heq⟩ | ⟨-, -, e, -, heq⟩ := engineTurn_cases s <;> rw [heq] at h
  · cases h; rfl
  · exact exec_now h
  · cases h; rfl

theorem hostAccess_now {op : HostOp} {s t : State} (h : hostAccess op s = .next t) : t.now = s.now := by
  unfold hostAccess at h
  cases op with
  | read off width =>
    dsimp only at h
    split at h <;> cases h
    rfl
  | write off width v =>
    dsimp only at h
    split at h <;> cases h
    exact s.hostWrite_now _ v

theorem hostWaitDone_now {s t : State} (h : hostWaitDone s = .next t) : t.now = s.now := by
  unfold hostWaitDone at h
  split_ifs at h <;> cases h <;> rfl

theorem hostPollOk_now {w : Word} {s t : State} (h : hostPollOk w s = .next t) : t.now = s.now := by
  unfold hostPollOk at h
  split_ifs at h <;> cases h <;> rfl

/-- Settles O15, agent by agent. -/
theorem onlyClockAdvancesTime : Obligations.OnlyClockAdvancesTime := by
  refine ⟨fun s => rfl, fun turn s t hturn h => ?_⟩
  cases turn with
  | engine => exact engineTurn_now h
  | clock => exact absurd rfl hturn
  | host op => exact hostAccess_now h
  | board level => cases h; rfl
  | reset asserted => cases h; cases asserted <;> rfl
  | waitDone => exact hostWaitDone_now h
  | pollOk w => exact hostPollOk_now h

end Sys2Proof.Machine
end

section
open Sys2Proof Sys2Proof.Machine
namespace Sys2Proof.Machine

/-! ### Which parts of the state a command writes (10_state.md R14, R21 to R28)

The multiplexer is left out: `Stepped.muxPart` says which commands write it. -/

/-- A part of the state: a register, the two variables of the non-blocking machine, a chip-select pin, or the
transactions made so far. -/
inductive Part where
  | result | tcProbe | tcMask | tcOffset | tcLastFault | tcActive | rtdActive | outCfg
  | cfg | rtdProbe | rtdState | rtdAsync | cs (chip : Chip) | transfers

/-- The values of a part. -/
def Part.Val : Part → Type
  | .result => Word
  | .tcProbe => ProbeType
  | .tcMask => BitVec 4
  | .tcOffset => Word
  | .tcLastFault => BitVec 4
  | .tcActive => Bool
  | .rtdActive => Bool
  | .outCfg => Bool
  | .cfg => Byte
  | .rtdProbe => ProbeType
  | .rtdState => RtdState
  | .rtdAsync => Word × Bool
  | .cs _ => Level
  | .transfers => List Event

/-- The level of a chip's chip-select pin. -/
def State.csLevel (chip : Chip) (s : State) : Level :=
  match chip with
  | .rtd => s.csRtd
  | .tc => s.csTc

/-- A part of a state. -/
def State.part (s : State) : (p : Part) → p.Val
  | .result => s.result
  | .tcProbe => s.tcProbe
  | .tcMask => s.tcMask
  | .tcOffset => s.tcOffset
  | .tcLastFault => s.tcLastFault
  | .tcActive => s.tcActive
  | .rtdActive => s.rtdActive
  | .outCfg => s.outCfg
  | .cfg => s.cfg
  | .rtdProbe => s.rtdProbe
  | .rtdState => s.rtdState
  | .rtdAsync => (s.rtdTs, s.rtdAsyncBiasWasOn)
  | .cs chip => s.csLevel chip
  | .transfers => spiOnly s.trace

/-- The parts that plain actions of a command's body may write. Nothing but the end of a command writes `RESULT`, and
nothing but a transaction adds to the transactions. -/
def writableParts : Instr → List Part
  | .tcSetType _ => [.tcProbe]
  | .tcSetFaultMask _ => [.tcMask]
  | .tcSetCjOffset => [.tcOffset]
  | .tcGetLastFault => [.tcLastFault]
  | .tcReadVolt => [.tcLastFault]
  | .tcReadTemp => [.tcLastFault]
  | .rtdSetType _ => [.cfg, .rtdProbe]
  | .rtdSetAuto _ => [.cfg]
  | .rtdSet50Hz _ => [.cfg]
  | .rtdSetBias _ => [.cfg]
  | .rtdReadFault _ => [.cfg]
  | .rtdRead => [.cfg]
  | .rtdReadAsync => [.cfg, .rtdState, .rtdAsync]
  | .muxSel _ _ => [.tcProbe, .cfg, .rtdProbe]
  | .muxSelAsync _ _ => [.tcProbe, .cfg, .rtdProbe]
  | .beginTc => [.tcActive, .outCfg, .cs .tc]
  | .beginRtd => [.rtdActive, .outCfg, .cs .rtd, .cfg, .rtdProbe, .rtdState, .rtdAsync]
  | .beginBoth => [.tcActive, .cs .tc, .rtdActive, .outCfg, .cs .rtd, .cfg, .rtdProbe, .rtdState, .rtdAsync]
  | .endTc => [.tcActive, .outCfg, .cs .tc]
  | .endRtd => [.rtdActive, .outCfg, .cs .rtd, .rtdState]
  | .endBoth => [.tcActive, .cs .tc, .rtdActive, .outCfg, .cs .rtd, .rtdState]
  | _ => []

/-- The commands with a RESULT in R52. -/
def hasResult : Instr → Bool
  | .spiRd8 _ _ => true
  | .spiRd16 _ _ => true
  | .tcRd32 => true
  | .rtdGetLower => true
  | .rtdGetUpper => true
  | .rtdReadFault _ => true
  | .rtdRead => true
  | .rtdReadAsync => true
  | .tcGetLastFault => true
  | .tcDecHot => true
  | .tcDecCold => true
  | .tcReadVolt => true
  | .tcReadTemp => true
  | .polyEval _ => true
  | .rtdCalcRes => true
  | .rtdCalcTemp => true
  | _ => false

/-- `u` is `s` after plain actions of a body of `i`: every part the command may not write is as it was. -/
def KeepsParts (i : Instr) (s u : State) : Prop := ∀ p, p ∉ writableParts i → u.part p = s.part p

section
variable {i : Instr} {s u v : State}

theorem result_not_mem_writableParts : .result ∉ writableParts i := by
  unfold writableParts
  split <;> simp

theorem transfers_not_mem_writableParts : .transfers ∉ writableParts i := by
  unfold writableParts
  split <;> simp

theorem KeepsParts.refl (i : Instr) (s : State) : KeepsParts i s s := fun _ _ => rfl

theorem KeepsParts.trans (h : KeepsParts i s u) (h' : KeepsParts i u v) : KeepsParts i s v :=
  fun p hp => (h' p hp).trans (h p hp)

/-! ### What each operation of the bodies writes -/

theorem keeps_tcProbe (x : ProbeType) (h : .tcProbe ∈ writableParts i := by simp [writableParts]) :
    KeepsParts i s { s with tcProbe := x } := by
  intro p hp
  cases p with
  | tcProbe => exact absurd h hp
  | _ => rfl

theorem keeps_tcMask (x : BitVec 4) (h : .tcMask ∈ writableParts i := by simp [writableParts]) :
    KeepsParts i s { s with tcMask := x } := by
  intro p hp
  cases p with
  | tcMask => exact absurd h hp
  | _ => rfl

theorem keeps_tcOffset (x : Word) (h : .tcOffset ∈ writableParts i := by simp [writableParts]) :
    KeepsParts i s { s with tcOffset := x } := by
  intro p hp
  cases p with
  | tcOffset => exact absurd h hp
  | _ => rfl

theorem keeps_tcLastFault (x : BitVec 4) (h : .tcLastFault ∈ writableParts i := by simp [writableParts]) :
    KeepsParts i s { s with tcLastFault := x } := by
  intro p hp
  cases p with
  | tcLastFault => exact absurd h hp
  | _ => rfl

theorem keeps_tcActive (x : Bool) (h : .tcActive ∈ writableParts i := by simp [writableParts]) :
    KeepsParts i s { s with tcActive := x } := by
  intro p hp
  cases p with
  | tcActive => exact absurd h hp
  | _ => rfl

theorem keeps_rtdActive (x : Bool) (h : .rtdActive ∈ writableParts i := by simp [writableParts]) :
    KeepsParts i s { s with rtdActive := x } := by
  intro p hp
  cases p with
  | rtdActive => exact absurd h hp
  | _ => rfl

theorem keeps_cfg (x : Byte) (h : .cfg ∈ writableParts i := by simp [writableParts]) :
    KeepsParts i s { s with cfg := x } := by
  intro p hp
  cases p with
  | cfg => exact absurd h hp
  | _ => rfl

theorem keeps_rtdProbe (x : ProbeType) (h : .rtdProbe ∈ writableParts i := by simp [writableParts]) :
    KeepsParts i s { s with rtdProbe := x } := by
  intro p hp
  cases p with
  | rtdProbe => exact absurd h hp
  | _ => rfl

theorem keeps_rtdState (x : RtdState) (h : .rtdState ∈ writableParts i := by simp [writableParts]) :
    KeepsParts i s { s with rtdState := x } := by
  intro p hp
  cases p with
  | rtdState => exact absurd h hp
  | _ => rfl

theorem keeps_rtdAsync (ts : Word) (wasOn : Bool) (h : .rtdAsync ∈ writableParts i := by simp [writableParts]) :
    KeepsParts i s { s with rtdTs := ts, rtdAsyncBiasWasOn := wasOn } := by
  intro p hp
  cases p with
  | rtdAsync => exact absurd h hp
  | _ => rfl

theorem part_transfers_eq (h : spiOnly u.trace = spiOnly s.trace) : u.part .transfers = s.part .transfers := h

theorem csLevel_setCs_of_ne {chip chip' : Chip} (h : chip' ≠ chip) (l : Level) :
    (s.setCs chip l).csLevel chip' = s.csLevel chip' := by
  match chip, chip', h with
  | .rtd, .tc, _ => rfl
  | .tc, .rtd, _ => rfl

theorem keeps_setCs {chip : Chip} (l : Level) (h : .cs chip ∈ writableParts i := by simp [writableParts]) :
    KeepsParts i s (s.setCs chip l) := by
  intro p hp
  cases p with
  | cs chip' => exact csLevel_setCs_of_ne (by rintro rfl; exact hp h) l
  | transfers => exact part_transfers_eq (by simp [spiOnly])
  | _ => cases chip <;> rfl

/-- Clearing the multiplexer writes of these parts the handle's flag alone (44_lifecycle.md R111, R112). -/
theorem keeps_clearMux (on : Bool) (h : .outCfg ∈ writableParts i := by simp [writableParts]) :
    KeepsParts i s (s.clearMux on) := by
  intro p hp
  cases p with
  | outCfg => exact absurd h hp
  | transfers => exact part_transfers_eq (by simp [spiOnly])
  | _ => rfl

theorem keeps_acquire (h : .outCfg ∈ writableParts i := by simp [writableParts]) :
    KeepsParts i s s.acquire := by
  rw [State.acquire_eq]
  split
  · exact .refl i s
  · exact keeps_clearMux true h

theorem keeps_release (h : .outCfg ∈ writableParts i := by simp [writableParts]) :
    KeepsParts i s s.release := by
  rw [State.release_eq]
  split
  · exact .refl i s
  · exact keeps_clearMux false h

/-! The actions of a selection on the route, the cache and the lines write none of the parts (43_channel_mux.md). -/

theorem keeps_setRoute (fam : Family) : KeepsParts i s (s.setRoute fam) := by
  intro p _
  cases p with
  | transfers => exact part_transfers_eq (by simp [spiOnly])
  | _ => rfl

theorem keeps_cacheProbe (ch : Channel) (p : ProbeType) : KeepsParts i s (s.cacheProbe ch p) := by
  intro p _
  cases p <;> rfl

theorem keeps_selectLines (ch : Channel) (rev : Bool) : KeepsParts i s (s.selectLines ch rev) := by
  intro p _
  rw [State.selectLines_eq]
  cases p with
  | transfers => exact part_transfers_eq (by simp)
  | _ => rfl

theorem keeps_muxSelected : KeepsParts i s { s with muxState := .selected } := by
  intro p _
  cases p <;> rfl

theorem keeps_rtdType (p : ProbeType) (hcfg : .cfg ∈ writableParts i := by simp [writableParts])
    (hprobe : .rtdProbe ∈ writableParts i := by simp [writableParts]) : KeepsParts i s (s.rtdType p) :=
  (keeps_cfg _ hcfg).trans (keeps_rtdProbe p hprobe)

/-- Taking the time of the non-blocking machine (41_rtd_engine.md R84). -/
theorem keeps_rtdPhase (ts : Word) (wasOn : Bool) (phase : RtdState)
    (hasync : .rtdAsync ∈ writableParts i := by simp [writableParts])
    (hphase : .rtdState ∈ writableParts i := by simp [writableParts]) :
    KeepsParts i s { s with rtdTs := ts, rtdAsyncBiasWasOn := wasOn, rtdState := phase } :=
  (keeps_rtdAsync ts wasOn hasync).trans (keeps_rtdState phase hphase)

end

/-! ### What an engine step does, and how far it goes -/

/-- The place of a position in the order in which every body takes its points (10_state.md R20): the wait of a point
comes after the transfer of that number, and "no command" after every point. -/
def SeqPos.place : SeqPos → Nat
  | .start => 0
  | .sent label _ _ => 2 * label
  | .hold label _ _ _ => 2 * label + 1
  | .idle => 17

/-- What one engine step of `i` answers, after plain actions on parts it may write: it stays in a wait whose time has
not come, ends the command (with a result only where R52 has one), or goes on to a later point after one transaction
or into a wait; or its position is none of the body's. -/
inductive Effect (i : Instr) (s : State) : Outcome → Prop
  | waiting {label d : Nat} {t0 : Word} {flag : Bool} (hseq : s.seq = .hold label t0 d flag)
      (hlt : s.elapsed t0 < d) : Effect i s (.next s)
  | fail (e : CmdError) : Effect i s (.next (s.fail e))
  | finish {u : State} (h : KeepsParts i s u) (ok : Bool) : Effect i s (.next (u.finish ok))
  | finishWith {u : State} (h : KeepsParts i s u) (hi : hasResult i = true) (v : Word) :
      Effect i s (.next (u.finishWith v))
  | send {u : State} {chip : Chip} {mosi : List Byte} {label : Nat} {rx : Word} {flag : Bool} (h : KeepsParts i s u)
      (hlater : s.seq.place < 2 * label := by simp [SeqPos.place, *]) :
      Effect i s (.next (u.send chip mosi (.sent label rx flag)))
  | hold {u : State} {label d : Nat} {t0 : Word} {flag : Bool} (h : KeepsParts i s u)
      (hlater : s.seq.place < 2 * label + 1 := by simp [SeqPos.place, *]) :
      Effect i s (.next { u with seq := .hold label t0 d flag })
  | lost : Effect i s (.fault .sequencerLost)

section
variable {i : Instr} {s u : State}

theorem Effect.ifRtdActive {go : State} (h : Effect i s (.next go)) : Effect i s (ifRtdActive s go) := by
  unfold Machine.ifRtdActive
  split
  · exact h
  · exact .fail .inactive

theorem Effect.whenElapsed {label d : Nat} {t0 : Word} {flag : Bool} {go : State}
    (hseq : s.seq = .hold label t0 d flag) (h : Effect i s (.next go)) : Effect i s (whenElapsed t0 d s go) := by
  unfold Machine.whenElapsed
  split
  · exact h
  · exact .waiting hseq (Nat.not_le.mp ‹_›)

theorem Effect.waitThen {go : State} {label d : Nat} {flag : Bool} (h : Effect i s (.next go))
    (hu : KeepsParts i s u) (hlater : s.seq.place < 2 * label + 1 := by simp [SeqPos.place, *]) :
    Effect i s (.next (u.waitThen label d flag go)) := by
  unfold State.waitThen
  split
  · exact h
  · exact .hold hu hlater

end

/-! ### Each command's step: transport (40_bus_transport.md) -/

theorem execNop_effect (s : State) : Effect .nop s (execNop s) := by
  unfold execNop
  split
  · exact .finish (.refl _ s) true
  · exact .lost

theorem execSpiRd8_effect (chip : Chip) (addr : Byte) (s : State) :
    Effect (.spiRd8 chip addr) s (execSpiRd8 chip addr s) := by
  unfold execSpiRd8
  split
  · split
    · exact .send (.refl _ s)
    · exact .fail .inactive
  · exact .finishWith (.refl _ s) rfl _
  · exact .lost

theorem execSpiRd16_effect (chip : Chip) (addr : Byte) (s : State) :
    Effect (.spiRd16 chip addr) s (execSpiRd16 chip addr s) := by
  unfold execSpiRd16
  split
  · split
    · exact .send (.refl _ s)
    · exact .fail .inactive
  · exact .finishWith (.refl _ s) rfl _
  · exact .lost

theorem execSpiWr8_effect (chip : Chip) (addr value : Byte) (s : State) :
    Effect (.spiWr8 chip addr value) s (execSpiWr8 chip addr value s) := by
  unfold execSpiWr8
  split
  · split
    · exact .send (.refl _ s)
    · exact .fail .inactive
  · exact .finish (.refl _ s) true
  · exact .lost

theorem execTcRd32_effect (s : State) : Effect .tcRd32 s (execTcRd32 s) := by
  unfold execTcRd32
  split
  · split
    · exact .send (.refl _ s)
    · exact .fail .inactive
  · exact .finishWith (.refl _ s) rfl _
  · exact .lost

/-! ### Each command's step: the RTD engine (41_rtd_engine.md) -/

theorem execRtdSetType_effect (probe : Coded ProbeType) (s : State) :
    Effect (.rtdSetType probe) s (execRtdSetType probe s) := by
  unfold execRtdSetType
  split
  · split
    · exact .fail .arg
    · exact .ifRtdActive (.send (keeps_rtdType _))
  · exact .finish (.refl _ s) true
  · exact .lost

theorem execRtdSetThresh_effect (s : State) : Effect .rtdSetThresh s (execRtdSetThresh s) := by
  unfold execRtdSetThresh
  split
  · exact .ifRtdActive (.send (.refl _ s))
  iterate 3 · exact .send (.refl _ s)
  · exact .finish (.refl _ s) true
  · exact .lost

theorem execRtdGetLower_effect (s : State) : Effect .rtdGetLower s (execRtdGetLower s) := by
  unfold execRtdGetLower
  split
  · exact .ifRtdActive (.send (.refl _ s))
  · exact .finishWith (.refl _ s) rfl _
  · exact .lost

theorem execRtdGetUpper_effect (s : State) : Effect .rtdGetUpper s (execRtdGetUpper s) := by
  unfold execRtdGetUpper
  split
  · exact .ifRtdActive (.send (.refl _ s))
  · exact .finishWith (.refl _ s) rfl _
  · exact .lost

theorem execRtdSetAuto_effect (en : Bool) (s : State) : Effect (.rtdSetAuto en) s (execRtdSetAuto en s) := by
  unfold execRtdSetAuto
  split
  · exact .ifRtdActive (.send (keeps_cfg _))
  · split
    · exact .waitThen (.finish (.refl _ s) true) (.refl _ s)
    · exact .finish (.refl _ s) true
  · exact .whenElapsed ‹_› (.finish (.refl _ s) true)
  · exact .lost

theorem execRtdSet50Hz_effect (en : Bool) (s : State) : Effect (.rtdSet50Hz en) s (execRtdSet50Hz en s) := by
  unfold execRtdSet50Hz
  split
  · exact .ifRtdActive (.send (keeps_cfg _))
  · exact .finish (.refl _ s) true
  · exact .lost

theorem execRtdSetBias_effect (en : Bool) (s : State) : Effect (.rtdSetBias en) s (execRtdSetBias en s) := by
  unfold execRtdSetBias
  split
  · exact .ifRtdActive (.send (keeps_cfg _))
  · exact .finish (.refl _ s) true
  · exact .lost

theorem execRtdReadFault_effect (cycle : Coded FaultCycle) (s : State) :
    Effect (.rtdReadFault cycle) s (execRtdReadFault cycle s) := by
  have hmirror (trig : Byte) : KeepsParts (.rtdReadFault cycle) s (s.faultMirror trig) := keeps_cfg _
  match cycle with
  | .unknown code =>
    rw [execRtdReadFault_unknown]
    split
    · exact .fail .arg
    · exact .lost
  | .known .none =>
    rw [execRtdReadFault_none]
    split
    · exact .ifRtdActive (.send (.refl _ s))
    · exact .finishWith (.refl _ s) rfl _
    · exact .lost
  | .known .auto =>
    rw [execRtdReadFault_auto]
    split
    · exact .ifRtdActive (.send (.refl _ s))
    · exact .waitThen (.send (hmirror _)) (hmirror _)
    · exact .whenElapsed ‹_› (.send (.refl _ s))
    · exact .finishWith (.refl _ s) rfl _
    · exact .lost
  | .known .manualRun =>
    rw [execRtdReadFault_manualRun]
    split
    · exact .ifRtdActive (.send (.refl _ s))
    · exact .finishWith (hmirror _) rfl _
    · exact .lost
  | .known .manualFinish =>
    rw [execRtdReadFault_manualFinish]
    split
    · exact .ifRtdActive (.send (.refl _ s))
    · exact .finishWith (hmirror _) rfl _
    · exact .lost

theorem execRtdClearFault_effect (s : State) : Effect .rtdClearFault s (execRtdClearFault s) := by
  unfold execRtdClearFault
  split
  · exact .ifRtdActive (.send (.refl _ s))
  · exact .finish (.refl _ s) true
  · exact .lost

theorem execRtdRead_effect (s : State) : Effect .rtdRead s (execRtdRead s) := by
  unfold execRtdRead
  split
  · exact .ifRtdActive (.send (.refl _ s))
  · split_ifs
    · exact .send (.refl _ s)
    · exact .send (.refl _ s)
    · exact .send (keeps_cfg _)
  · exact .waitThen (.send (.refl _ s)) (.refl _ s)
  · exact .whenElapsed ‹_› (.send (.refl _ s))
  · exact .waitThen (.send (.refl _ s)) (.refl _ s)
  · exact .whenElapsed ‹_› (.send (.refl _ s))
  · split_ifs
    · exact .finishWith (.refl _ s) rfl _
    · exact .send (keeps_cfg _)
  · exact .finishWith (.refl _ s) rfl _
  · exact .lost

theorem execRtdReadAsync_effect (s : State) : Effect .rtdReadAsync s (execRtdReadAsync s) := by
  unfold execRtdReadAsync
  split
  · split
    · split
      · exact .send (.refl _ s)
      · split
        · exact .send (.refl _ s)
        · exact .finish (.refl _ s) false
      · split
        · exact .send (.refl _ s)
        · exact .finish (.refl _ s) false
    · exact .fail .inactive
  · split_ifs
    · exact .finish (keeps_rtdPhase s.now true .settling) false
    · exact .send ((keeps_rtdAsync s.rtdTs false).trans (keeps_cfg _))
  · exact .finish (keeps_rtdPhase s.now s.rtdAsyncBiasWasOn .settling) false
  · exact .finish (keeps_rtdPhase s.now s.rtdAsyncBiasWasOn .converting) false
  · split_ifs
    · exact .send (keeps_cfg _)
    · exact .finishWith (keeps_rtdState .idle) rfl _
  · exact .finishWith (keeps_rtdState .idle) rfl _
  · exact .lost

/-! ### Each command's step: the TC engine (42_tc_engine.md) -/

theorem execTcSetType_effect (probe : Coded ProbeType) (s : State) :
    Effect (.tcSetType probe) s (execTcSetType probe s) := by
  unfold execTcSetType
  split
  · split
    · exact .fail .arg
    · exact .finish (keeps_tcProbe _) true
  · exact .lost

theorem execTcSetFaultMask_effect (mask : BitVec 4) (s : State) :
    Effect (.tcSetFaultMask mask) s (execTcSetFaultMask mask s) := by
  unfold execTcSetFaultMask
  split
  · exact .finish (keeps_tcMask mask) true
  · exact .lost

theorem execTcGetLastFault_effect (s : State) : Effect .tcGetLastFault s (execTcGetLastFault s) := by
  unfold execTcGetLastFault
  split
  · exact .finishWith (keeps_tcLastFault 0#4) rfl _
  · exact .lost

theorem execTcSetCjOffset_effect (s : State) : Effect .tcSetCjOffset s (execTcSetCjOffset s) := by
  unfold execTcSetCjOffset
  split
  · exact .finish (keeps_tcOffset _) true
  · exact .lost

theorem execTcDecHot_effect (s : State) : Effect .tcDecHot s (execTcDecHot s) := by
  unfold execTcDecHot
  split
  · exact .finishWith (.refl _ s) rfl _
  · exact .lost

theorem execTcDecCold_effect (s : State) : Effect .tcDecCold s (execTcDecCold s) := by
  unfold execTcDecCold
  split
  · exact .finishWith (.refl _ s) rfl _
  · exact .lost

theorem State.tcReading_effect {i : Instr} (hi : hasResult i = true) (raw : Word) (value : Option Fp) (s : State)
    (hfault : .tcLastFault ∈ writableParts i := by simp [writableParts]) :
    Effect i s (.next (s.tcReading raw value)) := by
  obtain ⟨-, h⟩ | ⟨-, -, h⟩ | ⟨v, -, -, h⟩ := s.tcReading_cases raw value <;> rw [h]
  · exact .finishWith (keeps_tcLastFault _ hfault) hi _
  · exact .finishWith (.refl i s) hi _
  · exact .finishWith (.refl i s) hi _

theorem execTcReadVolt_effect (s : State) : Effect .tcReadVolt s (execTcReadVolt s) := by
  unfold execTcReadVolt
  split
  · split
    · exact .send (.refl _ s)
    · exact .fail .inactive
  · exact State.tcReading_effect rfl _ _ s
  · exact .lost

theorem execTcReadTemp_effect (s : State) : Effect .tcReadTemp s (execTcReadTemp s) := by
  unfold execTcReadTemp
  split
  · split
    · exact .send (.refl _ s)
    · exact .fail .inactive
  · exact State.tcReading_effect rfl _ _ s
  · exact .lost

/-! ### Each command's step: the decode pipeline (45_decode_pipeline.md) -/

theorem execPolyEval_effect (table : Coded TableId) (s : State) :
    Effect (.polyEval table) s (execPolyEval table s) := by
  unfold execPolyEval
  split
  · split
    · exact .fail .arg
    · exact .finishWith (.refl _ s) rfl _
  · exact .lost

theorem execRtdCalcRes_effect (s : State) : Effect .rtdCalcRes s (execRtdCalcRes s) := by
  unfold execRtdCalcRes
  split
  · exact .finishWith (.refl _ s) rfl _
  · exact .lost

theorem execRtdCalcTemp_effect (s : State) : Effect .rtdCalcTemp s (execRtdCalcTemp s) := by
  unfold execRtdCalcTemp
  split
  · exact .finishWith (.refl _ s) rfl _
  · exact .lost

end Sys2Proof.Machine
end

section
open Sys2Proof Sys2Proof.Machine
namespace Sys2Proof.Machine

/-! ### Each command's step: the multiplexer (43_channel_mux.md) -/

section
variable {i : Instr} {s u : State}

theorem State.muxSelEnd_effect (h : KeepsParts i s u) (fam : Family)
    (hplace : s.seq.place < 5 := by simp [SeqPos.place, *]) :
    Effect i s (.next (u.muxSelEnd fam)) := by
  obtain ⟨-, heq⟩ | ⟨-, -, heq⟩ | ⟨-, -, heq⟩ := u.muxSelEnd_cases fam <;> rw [heq]
  · exact .finish h true
  · exact .finish (h.trans keeps_muxSelected) true
  · exact .hold h hplace

theorem State.muxSelAsyncEnd_effect (h : KeepsParts i s u) (fam : Family) :
    Effect i s (.next (u.muxSelAsyncEnd fam)) := by
  obtain ⟨-, heq⟩ | ⟨-, -, heq⟩ | ⟨-, -, heq⟩ := u.muxSelAsyncEnd_cases fam <;> rw [heq]
  · exact .finish h true
  · exact .finish (h.trans keeps_muxSelected) true
  · exact .finish h false

/-- What `Setup` writes of the parts: the probe of one family. -/
theorem keeps_muxSetup {ch : Channel} {p : ProbeType} {fam : Family}
    (htc : .tcProbe ∈ writableParts i := by simp [writableParts])
    (hcfg : .cfg ∈ writableParts i := by simp [writableParts])
    (hrtd : .rtdProbe ∈ writableParts i := by simp [writableParts]) :
    KeepsParts i s (s.setRoute fam) ∧ KeepsParts i s ((s.setRoute fam).rtdType p) ∧
      KeepsParts i s (({ s.setRoute fam with tcProbe := p } : State).cacheProbe ch p) :=
  have hroute := keeps_setRoute fam
  ⟨hroute, hroute.trans (keeps_rtdType p hcfg hrtd),
    (hroute.trans (keeps_tcProbe p htc)).trans (keeps_cacheProbe ch p)⟩

end

theorem execMuxSel_effect (channel : Coded Channel) (probe : Coded ProbeType) (s : State) :
    Effect (.muxSel channel probe) s (execMuxSel channel probe s) := by
  unfold execMuxSel
  split
  · split
    · exact .fail _
    · exact .finish (.refl _ s) true
    · next ch p fam _ =>
      obtain ⟨hroute, hrtd, htc⟩ : _ ∧ _ ∧ _ :=
        keeps_muxSetup (i := .muxSel channel probe) (s := s) (ch := ch) (p := p) (fam := fam)
      obtain ⟨-, -, heq⟩ | ⟨-, -, heq⟩ | ⟨-, heq⟩ := s.muxSetup_cases ch p fam <;> rw [heq]
      · exact .send hrtd
      · exact State.muxSelEnd_effect (htc.trans (keeps_selectLines ch _)) fam
      · exact State.muxSelEnd_effect (hroute.trans (keeps_selectLines ch _)) fam
  · split
    · exact State.muxSelEnd_effect ((keeps_cacheProbe _ _).trans (keeps_selectLines _ _)) .rtd
    · exact .lost
  · exact .whenElapsed ‹_› (.finish keeps_muxSelected true)
  · exact .lost

theorem execMuxSelAsync_effect (channel : Coded Channel) (probe : Coded ProbeType) (s : State) :
    Effect (.muxSelAsync channel probe) s (execMuxSelAsync channel probe s) := by
  unfold execMuxSelAsync
  split
  · split
    · exact .fail _
    · exact .finish (.refl _ s) false
    · next ch p fam _ =>
      obtain ⟨hroute, hrtd, htc⟩ : _ ∧ _ ∧ _ :=
        keeps_muxSetup (i := .muxSelAsync channel probe) (s := s) (ch := ch) (p := p) (fam := fam)
      obtain ⟨-, -, heq⟩ | ⟨-, -, heq⟩ | ⟨-, heq⟩ := s.muxSetup_cases ch p fam <;> rw [heq]
      · exact .send hrtd
      · exact State.muxSelAsyncEnd_effect (htc.trans (keeps_selectLines ch _)) fam
      · exact State.muxSelAsyncEnd_effect (hroute.trans (keeps_selectLines ch _)) fam
  · split
    · exact State.muxSelAsyncEnd_effect ((keeps_cacheProbe _ _).trans (keeps_selectLines _ _)) .rtd
    · exact .lost
  · exact .lost

/-! ### Each command's step: the lifecycle (44_lifecycle.md) -/

section
variable {i : Instr} {s u : State}

theorem State.tcOpen_effect (hstart : s.seq = .start)
    (hout : .outCfg ∈ writableParts i := by simp [writableParts])
    (hcs : .cs .tc ∈ writableParts i := by simp [writableParts]) : Effect i s (.next s.tcOpen) :=
  .send ((keeps_acquire hout).trans (keeps_setCs .high hcs))

theorem keeps_tcOpened (raw : Word) (hout : .outCfg ∈ writableParts i := by simp [writableParts])
    (hcs : .cs .tc ∈ writableParts i := by simp [writableParts])
    (hactive : .tcActive ∈ writableParts i := by simp [writableParts]) :
    KeepsParts i s (s.tcOpened raw) := by
  unfold State.tcOpened
  split
  · exact keeps_tcActive true hactive
  · exact (keeps_setCs .z hcs).trans (keeps_release hout)

theorem State.rtdOpen_effect (h : KeepsParts i s u) {base : Nat} {flag : Bool}
    (hlater : s.seq.place < 2 * (base + 1) := by simp [SeqPos.place, *])
    (hout : .outCfg ∈ writableParts i := by simp [writableParts])
    (hcs : .cs .rtd ∈ writableParts i := by simp [writableParts])
    (hcfg : .cfg ∈ writableParts i := by simp [writableParts])
    (hprobe : .rtdProbe ∈ writableParts i := by simp [writableParts]) :
    Effect i s (.next (u.rtdOpen base flag)) :=
  .send (h.trans <| (keeps_acquire hout).trans <| (keeps_setCs .high hcs).trans <|
    (keeps_cfg 0x00#8 hcfg).trans (keeps_rtdProbe .none hprobe)) hlater

theorem State.rtdOpenWrite_effect {base k : Nat} {flag : Bool}
    (hlater : s.seq.place < 2 * (base + k) := by simp [SeqPos.place, *]) :
    Effect i s (.next (s.rtdOpenWrite base k flag)) :=
  .send (.refl i s) hlater

theorem keeps_rtdOpened (hstate : .rtdState ∈ writableParts i := by simp [writableParts])
    (hasync : .rtdAsync ∈ writableParts i := by simp [writableParts])
    (hactive : .rtdActive ∈ writableParts i := by simp [writableParts]) : KeepsParts i s s.rtdOpened :=
  (keeps_rtdPhase 0#32 false .idle hasync hstate).trans (keeps_rtdActive true hactive)

theorem keeps_tcClose (hout : .outCfg ∈ writableParts i := by simp [writableParts])
    (hcs : .cs .tc ∈ writableParts i := by simp [writableParts])
    (hactive : .tcActive ∈ writableParts i := by simp [writableParts]) : KeepsParts i s s.tcClose := by
  unfold State.tcClose
  split
  · exact ((keeps_setCs .z hcs).trans (keeps_tcActive false hactive)).trans (keeps_release hout)
  · exact .refl i s

theorem keeps_rtdClose (hout : .outCfg ∈ writableParts i := by simp [writableParts])
    (hcs : .cs .rtd ∈ writableParts i := by simp [writableParts])
    (hactive : .rtdActive ∈ writableParts i := by simp [writableParts])
    (hstate : .rtdState ∈ writableParts i := by simp [writableParts]) : KeepsParts i s s.rtdClose := by
  unfold State.rtdClose
  split
  · exact (keeps_setCs .z hcs).trans <| (keeps_rtdActive false hactive).trans <|
      (keeps_rtdState .idle hstate).trans (keeps_release hout)
  · exact .refl i s

end

theorem State.beginRtdPart_effect {s u : State} (h : KeepsParts .beginBoth s u) (okT : Bool)
    (hplace : s.seq.place < 4 := by simp [SeqPos.place, *]) : Effect .beginBoth s (.next (u.beginRtdPart okT)) := by
  unfold State.beginRtdPart
  split
  · exact .finish h okT
  · exact State.rtdOpen_effect h hplace

theorem execBeginTc_effect (s : State) : Effect .beginTc s (execBeginTc s) := by
  unfold execBeginTc
  split
  · split
    · exact .finish (.refl _ s) true
    · exact State.tcOpen_effect ‹_›
  · exact .finish (keeps_tcOpened _) _
  · exact .lost

theorem execBeginRtd_effect (s : State) : Effect .beginRtd s (execBeginRtd s) := by
  unfold execBeginRtd
  split
  · split
    · exact .finish (.refl _ s) true
    · exact State.rtdOpen_effect (.refl _ s)
  iterate 6 · exact State.rtdOpenWrite_effect
  · exact .finish keeps_rtdOpened true
  · exact .lost

theorem execBeginBoth_effect (s : State) : Effect .beginBoth s (execBeginBoth s) := by
  unfold execBeginBoth
  split
  · split
    · exact State.beginRtdPart_effect (.refl _ s) true
    · exact State.tcOpen_effect ‹_›
  · exact State.beginRtdPart_effect (keeps_tcOpened _) _
  iterate 6 · exact State.rtdOpenWrite_effect
  · exact .finish keeps_rtdOpened _
  · exact .lost

theorem execEndTc_effect (s : State) : Effect .endTc s (execEndTc s) := by
  unfold execEndTc
  split
  · exact .finish keeps_tcClose true
  · exact .lost

theorem execEndRtd_effect (s : State) : Effect .endRtd s (execEndRtd s) := by
  unfold execEndRtd
  split
  · exact .finish keeps_rtdClose true
  · exact .lost

theorem execEndBoth_effect (s : State) : Effect .endBoth s (execEndBoth s) := by
  unfold execEndBoth
  split
  · exact .finish (.trans keeps_tcClose keeps_rtdClose) true
  · exact .lost

/-- What every engine step writes, and where it goes. -/
theorem exec_effect (i : Instr) (s : State) : Effect i s (exec i s) := by
  cases i with
  | nop => exact execNop_effect s
  | spiRd8 chip addr => exact execSpiRd8_effect chip addr s
  | spiRd16 chip addr => exact execSpiRd16_effect chip addr s
  | spiWr8 chip addr value => exact execSpiWr8_effect chip addr value s
  | tcRd32 => exact execTcRd32_effect s
  | rtdSetType probe => exact execRtdSetType_effect probe s
  | rtdSetThresh => exact execRtdSetThresh_effect s
  | rtdGetLower => exact execRtdGetLower_effect s
  | rtdGetUpper => exact execRtdGetUpper_effect s
  | rtdSetAuto en => exact execRtdSetAuto_effect en s
  | rtdSet50Hz en => exact execRtdSet50Hz_effect en s
  | rtdSetBias en => exact execRtdSetBias_effect en s
  | rtdReadFault cycle => exact execRtdReadFault_effect cycle s
  | rtdClearFault => exact execRtdClearFault_effect s
  | rtdRead => exact execRtdRead_effect s
  | rtdReadAsync => exact execRtdReadAsync_effect s
  | tcSetType probe => exact execTcSetType_effect probe s
  | tcSetFaultMask mask => exact execTcSetFaultMask_effect mask s
  | tcGetLastFault => exact execTcGetLastFault_effect s
  | tcSetCjOffset => exact execTcSetCjOffset_effect s
  | tcDecHot => exact execTcDecHot_effect s
  | tcDecCold => exact execTcDecCold_effect s
  | tcReadVolt => exact execTcReadVolt_effect s
  | tcReadTemp => exact execTcReadTemp_effect s
  | muxSel channel probe => exact execMuxSel_effect channel probe s
  | muxSelAsync channel probe => exact execMuxSelAsync_effect channel probe s
  | beginTc => exact execBeginTc_effect s
  | beginRtd => exact execBeginRtd_effect s
  | beginBoth => exact execBeginBoth_effect s
  | endTc => exact execEndTc_effect s
  | endRtd => exact execEndRtd_effect s
  | endBoth => exact execEndBoth_effect s
  | polyEval table => exact execPolyEval_effect table s
  | rtdCalcRes => exact execRtdCalcRes_effect s
  | rtdCalcTemp => exact execRtdCalcTemp_effect s

end Sys2Proof.Machine
end

section
open Sys2Proof Sys2Proof.Machine
namespace Sys2Proof.Machine

/-! ### What a command may not write, its steps leave -/

/-- The parts that neither an end nor a transaction writes by itself. -/
def Part.plain : Part → Bool
  | .result => false
  | .cs _ => false
  | .transfers => false
  | _ => true

theorem finish_part (s : State) (ok : Bool) (p : Part) : (s.finish ok).part p = s.part p := by cases p <;> rfl

theorem fail_part (s : State) (e : CmdError) (p : Part) : (s.fail e).part p = s.part p := by cases p <;> rfl

theorem finishWith_part (s : State) (v : Word) {p : Part} (hp : p ≠ .result) :
    (s.finishWith v).part p = s.part p := by
  cases p with
  | result => exact absurd rfl hp
  | _ => rfl

theorem hold_part (s : State) (pos : SeqPos) (p : Part) : ({ s with seq := pos } : State).part p = s.part p := by
  cases p <;> rfl

theorem csLevel_send_of_ne {chip chip' : Chip} (h : chip' ≠ chip) (mosi : List Byte) (pos : SeqPos) (s : State) :
    (s.send chip mosi pos).csLevel chip' = s.csLevel chip' := by
  match chip, chip', h with
  | .rtd, .tc, _ => rfl
  | .tc, .rtd, _ => rfl

theorem send_part (chip : Chip) (mosi : List Byte) (pos : SeqPos) (s : State) {p : Part} (htransfers : p ≠ .transfers)
    (hcs : p ≠ .cs chip) : (s.send chip mosi pos).part p = s.part p := by
  cases p with
  | transfers => exact absurd rfl htransfers
  | cs chip' => exact csLevel_send_of_ne (by rintro rfl; exact hcs rfl) mosi pos s
  | _ => cases chip <;> rfl

section
variable {i : Instr} {s t : State}

/-- An engine step as the inversion lemma has it. -/
theorem effect_of_exec (h : exec i s = .next t) : Effect i s (.next t) := h ▸ exec_effect i s

theorem Effect.part_eq (h : Effect i s (.next t)) {p : Part} (hplain : p.plain = true) (hp : p ∉ writableParts i) :
    t.part p = s.part p := by
  have hresult : p ≠ .result := by rintro rfl; cases hplain
  have htransfers : p ≠ .transfers := by rintro rfl; cases hplain
  have hcs (chip : Chip) : p ≠ .cs chip := by rintro rfl; cases hplain
  cases h with
  | waiting hseq hlt => rfl
  | fail e => exact fail_part s e p
  | finish hu ok => exact (finish_part _ ok p).trans (hu p hp)
  | finishWith hu hi v => exact (finishWith_part _ v hresult).trans (hu p hp)
  | send hu hlater => exact (send_part _ _ _ _ htransfers (hcs _)).trans (hu p hp)
  | hold hu hlater => exact (hold_part _ _ p).trans (hu p hp)

/-- Only a delivery changes `RESULT`. -/
theorem Effect.result_ne (h : Effect i s (.next t)) (hne : t.result ≠ s.result) :
    hasResult i = true ∧ t.seq = .idle ∧ t.status.ok = true ∧ t.status.done = true ∧ t.status.busy = false := by
  have hp := result_not_mem_writableParts (i := i)
  cases h with
  | waiting hseq hlt => exact absurd rfl hne
  | fail e => exact absurd rfl hne
  | finish hu ok => exact absurd (hu .result hp) hne
  | finishWith hu hi v => exact ⟨hi, rfl, rfl, rfl, rfl⟩
  | send hu hlater =>
    rw [State.send_result] at hne
    exact absurd (hu .result hp) hne
  | hold hu hlater => exact absurd (hu .result hp) hne

/-- A chip select moves by a transaction of its chip, which leaves it high, or by a command that may write it. -/
theorem Effect.csLevel_ne (h : Effect i s (.next t)) {chip : Chip} (hne : t.csLevel chip ≠ s.csLevel chip) :
    (t.csLevel chip = .high ∧ ∃ mosi miso, spiOnly t.trace = spiOnly s.trace ++ [.spi chip mosi miso]) ∨
      .cs chip ∈ writableParts i := by
  refine or_iff_not_imp_right.mpr fun hp => ?_
  cases h with
  | waiting hseq hlt => exact absurd rfl hne
  | fail e => exact absurd rfl hne
  | finish hu ok => exact absurd (hu (.cs chip) hp) hne
  | finishWith hu hi v => exact absurd (hu (.cs chip) hp) hne
  | hold hu hlater => exact absurd (hu (.cs chip) hp) hne
  | @send u chip' mosi label rx flag hu hlater =>
    obtain rfl : chip = chip' := by_contra fun hchip => hne ((csLevel_send_of_ne hchip ..).trans (hu (.cs chip) hp))
    have htransfers : spiOnly u.trace = spiOnly s.trace := hu .transfers transfers_not_mem_writableParts
    exact ⟨by cases chip <;> rfl, mosi, u.miso mosi.length, by simp [htransfers]⟩

end

/-- Settles O17: only a delivery changes `RESULT`, and only a command with a RESULT makes one. -/
theorem resultWrittenOnSuccessOnly : Obligations.ResultWrittenOnSuccessOnly := by
  intro i s t h hne
  obtain ⟨hi, hseq, hok, hdone, hbusy⟩ := (effect_of_exec h).result_ne hne
  refine ⟨hseq, hok, hdone, hbusy, ?_⟩
  cases i <;> trivial

/-- Settles O20: a part that changed is one the command may write, a multiplexer that changed is moved by the command
(`Stepped.muxPart`), and both tables list the commands. -/
theorem whoWritesWhat : Obligations.WhoWritesWhat := by
  intro i s t h
  have heff := effect_of_exec h
  have hstep := stepped_of_exec h
  have of_written {p : Part} {P : Prop} (hplain : p.plain = true) (hne : t.part p ≠ s.part p)
      (htable : p ∈ writableParts i → P) : P :=
    htable <| by_contra fun hp => hne (heff.part_eq hplain hp)
  have of_moved {P : Prop} (hne : t.muxPart ≠ s.muxPart) (htable : movesMux i = true → P) : P :=
    htable <| by_contra fun hi => hne (hstep.muxPart (Bool.not_eq_true _ ▸ hi))
  have of_driven {chip : Chip} {P : Prop} (hne : t.csLevel chip ≠ s.csLevel chip)
      (htable : .cs chip ∈ writableParts i → P) :
      (t.csLevel chip = .high ∧ ∃ es mosi miso, t.trace = s.trace ++ es ∧ spiOnly es = [.spi chip mosi miso]) ∨ P := by
    refine (heff.csLevel_ne hne).imp (fun ⟨hhigh, mosi, miso, hspi⟩ => ?_) htable
    obtain ⟨es, htrace, -⟩ := hstep.trace
    exact ⟨hhigh, es, mosi, miso, htrace, by simpa [htrace] using hspi⟩
  refine ⟨fun hne => of_written (p := .tcProbe) rfl hne ?_, fun hne => of_written (p := .tcMask) rfl hne ?_,
    fun hne => of_written (p := .tcOffset) rfl hne ?_, fun hne => of_written (p := .tcLastFault) rfl hne ?_,
    fun hne => of_written (p := .tcActive) rfl hne ?_, fun hne => of_written (p := .rtdActive) rfl hne ?_,
    fun hne => of_written (p := .rtdState) rfl hne ?_, fun hne => of_written (p := .cfg) rfl hne ?_,
    fun hne => of_written (p := .rtdProbe) rfl hne ?_,
    fun hne => of_written (p := .rtdAsync) rfl (fun heq => ?async) ?_,
    fun hne => of_driven (chip := .rtd) hne ?_, fun hne => of_driven (chip := .tc) hne ?_,
    fun hne => of_written (p := .outCfg) rfl hne ?_, fun hne => of_moved (fun heq => ?mux) ?_⟩
  case async =>
    obtain ⟨hts, hwasOn⟩ := Prod.mk.inj heq
    exact hne.elim (· hts) (· hwasOn)
  case mux =>
    simp only [State.muxPart, Prod.mk.injEq] at heq
    simp [heq] at hne
  all_goals cases i <;> simp [writableParts, movesMux, selects, opens, closes]

end Sys2Proof.Machine
end

section
open Sys2Proof Sys2Proof.Machine
namespace Sys2Proof.Machine

/-! ### Time that passes in a wait (00_scope.md R9, 10_state.md R30) -/

theorem Params.tw_le {c : Params} (h : c.wf = true) : c.tw ≤ 32 := by
  simp only [Params.wf, Bool.and_eq_true, decide_eq_true_eq] at h
  obtain ⟨⟨⟨⟨⟨⟨⟨-, htw⟩, -⟩, -⟩, -⟩, -⟩, -⟩, -⟩ := h
  exact htw

theorem Params.longestWait_lt {c : Params} (h : c.wf = true) : c.longestWait < 2 ^ c.tw := by
  simp only [Params.wf, Bool.and_eq_true, decide_eq_true_eq] at h
  obtain ⟨⟨⟨⟨⟨-, hwait⟩, -⟩, -⟩, -⟩, -⟩ := h
  exact hwait

/-- `Elapsed` as an equation of residues of the clock. -/
theorem State.elapsed_modEq (s : State) (t0 : Word) (htw : s.params.tw ≤ 32) :
    s.elapsed t0 + t0.toNat ≡ s.now.toNat [MOD 2 ^ s.params.tw] := by
  have hdvd : 2 ^ s.params.tw ∣ 2 ^ 32 := Nat.pow_dvd_pow 2 htw
  calc s.elapsed t0 + t0.toNat
      ≡ (s.now - t0).toNat + t0.toNat [MOD 2 ^ s.params.tw] := (Nat.mod_modEq _ _).add_right _
    _ ≡ ((s.now - t0) + t0).toNat [MOD 2 ^ s.params.tw] := by
        rw [BitVec.toNat_add]
        exact ((Nat.mod_modEq _ _).of_dvd hdvd).symm
    _ ≡ s.now.toNat [MOD 2 ^ s.params.tw] := by rw [BitVec.sub_add_cancel]

theorem State.clockTick_modEq (s : State) (htw : s.params.tw ≤ 32) :
    s.clockTick.now.toNat ≡ s.now.toNat + 1 [MOD 2 ^ s.params.tw] := by
  rw [State.clockTick_now, BitVec.toNat_ofNat]
  exact ((Nat.mod_modEq _ _).of_dvd (Nat.pow_dvd_pow 2 htw)).trans (Nat.mod_modEq _ _)

/-- A clock step before the wrap adds 1 to the time elapsed. -/
theorem State.elapsed_clockTick {s : State} {t0 : Word} (htw : s.params.tw ≤ 32)
    (hwrap : s.elapsed t0 + 1 < 2 ^ s.params.tw) : s.clockTick.elapsed t0 = s.elapsed t0 + 1 := by
  have hsum : s.clockTick.elapsed t0 + t0.toNat ≡ s.elapsed t0 + 1 + t0.toNat [MOD 2 ^ s.params.tw] :=
    calc s.clockTick.elapsed t0 + t0.toNat
        ≡ s.clockTick.now.toNat [MOD 2 ^ s.params.tw] := s.clockTick.elapsed_modEq t0 htw
      _ ≡ s.now.toNat + 1 [MOD 2 ^ s.params.tw] := s.clockTick_modEq htw
      _ ≡ s.elapsed t0 + t0.toNat + 1 [MOD 2 ^ s.params.tw] := (s.elapsed_modEq t0 htw).symm.add_right 1
      _ = s.elapsed t0 + 1 + t0.toNat := by omega
  exact (Nat.ModEq.add_right_cancel' _ hsum).eq_of_lt_of_lt (Nat.mod_lt _ (Nat.two_pow_pos _)) hwrap

/-! ### How much of a command is left -/

theorem le_of_mem_sentPoints {i : Instr} {label : Nat} (h : label ∈ sentPoints i) : label ≤ 8 := by
  unfold sentPoints at h
  split at h <;> simp at h <;> omega

theorem of_mem_holdPoints {i : Instr} {label : Nat} (h : label ∈ holdPoints i) : label = 2 ∨ label = 3 := by
  unfold holdPoints at h
  split at h <;> simp_all

/-- The time the wait that holds still takes. -/
def State.holdLeft (s : State) : Nat :=
  match s.seq with
  | .hold _ t0 d _ => d - s.elapsed t0
  | _ => 0

/-- How many waits a body may enter after a place: those of the points 2 and 3. -/
def waitsAfter (place : Nat) : Nat := (if place < 5 then 1 else 0) + (if place < 7 then 1 else 0)

/-- A bound on the steps left to a command: the places to come, the wait that holds, and the waits that may follow. -/
def State.stepsLeft (s : State) : Nat :=
  (17 - s.seq.place) + s.holdLeft + waitsAfter s.seq.place * s.params.longestWait

section
variable {i : Instr} {s t : State}

theorem State.holdLeft_eq {label d : Nat} {t0 : Word} {flag : Bool} (hseq : s.seq = .hold label t0 d flag) :
    s.holdLeft = d - s.elapsed t0 := by
  simp [State.holdLeft, hseq]

theorem waitsAfter_antitone : Antitone waitsAfter := by
  intro m n h
  simp only [waitsAfter]
  split_ifs <;> omega

theorem place_le_of_seqFits {c : Params} {pos : SeqPos} (h : SeqFits c i pos = true) : pos.place ≤ 16 := by
  cases pos with
  | idle => cases h
  | start => exact Nat.zero_le _
  | sent label rx flag =>
    have hlabel := le_of_mem_sentPoints (of_decide_eq_true h)
    exact Nat.mul_le_mul_left 2 hlabel
  | hold label t0 d flag =>
    simp only [SeqFits, Bool.and_eq_true, decide_eq_true_eq] at h
    obtain rfl | rfl := of_mem_holdPoints h.1 <;> simp [SeqPos.place]

/-- A wait of the body takes one of the waits that were left to an earlier place. -/
theorem waits_le (hfits : SeqFits s.params i s.seq = true) {place : Nat} (hplace : place < s.seq.place) :
    s.holdLeft + waitsAfter s.seq.place * s.params.longestWait ≤ waitsAfter place * s.params.longestWait := by
  have hmono := Nat.mul_le_mul_right s.params.longestWait (waitsAfter_antitone hplace.le)
  unfold State.holdLeft
  split
  next label t0 d flag hseq =>
    rw [hseq] at hfits hplace ⊢
    simp only [SeqFits, Bool.and_eq_true, decide_eq_true_eq] at hfits
    obtain ⟨hlabel, hd⟩ := hfits
    have hone : waitsAfter (SeqPos.hold label t0 d flag).place + 1 ≤ waitsAfter place := by
      obtain rfl | rfl := of_mem_holdPoints hlabel <;> exact waitsAfter_antitone (Nat.le_of_lt_succ hplace)
    calc d - s.elapsed t0 + waitsAfter (SeqPos.hold label t0 d flag).place * s.params.longestWait
        ≤ (waitsAfter (SeqPos.hold label t0 d flag).place + 1) * s.params.longestWait := by
          rw [Nat.succ_mul]; omega
      _ ≤ waitsAfter place * s.params.longestWait := Nat.mul_le_mul_right _ hone
  next => rwa [Nat.zero_add]

/-- A step to a later place leaves fewer steps. -/
theorem stepsLeft_lt_of_place_lt (hparams : t.params = s.params) (hplace : s.seq.place < t.seq.place)
    (ht : t.seq = .idle ∨ SeqFits s.params i t.seq = true) : t.stepsLeft < s.stepsLeft := by
  unfold State.stepsLeft
  obtain hidle | hfits := ht
  · have hleft : t.holdLeft = 0 := by simp [State.holdLeft, hidle]
    have hlast : t.seq.place = 17 := by rw [hidle]; rfl
    have hnone : waitsAfter 17 = 0 := rfl
    rw [hleft, hlast, hnone]
    omega
  · have hlater := place_le_of_seqFits hfits
    have hwaits := waits_le (hparams ▸ hfits) hplace
    rw [hparams] at hwaits ⊢
    omega

/-- Never more than 17 places and two waits are to come. -/
theorem stepsLeft_le (hfits : SeqFits s.params i s.seq = true) : s.stepsLeft ≤ 2 * s.params.longestWait + 17 := by
  unfold State.stepsLeft
  have htwo : waitsAfter 0 = 2 := rfl
  obtain hstart | hplace : s.seq.place = 0 ∨ 0 < s.seq.place := Nat.eq_zero_or_pos _
  · have hleft : s.holdLeft = 0 := by
      unfold State.holdLeft
      split
      next hseq => simp [hseq, SeqPos.place] at hstart
      next => rfl
    rw [hstart, hleft, htwo]
    omega
  · have hwaits := waits_le hfits hplace
    simp only [waitsAfter] at hwaits ⊢
    simp at hwaits ⊢
    omega

/-- An engine step that no wait holds goes to a later place. -/
theorem Effect.place_lt (h : Effect i s (.next t)) (hplace : s.seq.place < 17)
    (hready : ∀ label t0 d flag, s.seq = .hold label t0 d flag → d ≤ s.elapsed t0) : s.seq.place < t.seq.place := by
  cases h with
  | waiting hseq hlt => exact absurd (hready _ _ _ _ hseq) (Nat.not_le.mpr hlt)
  | fail e => exact hplace
  | finish hu ok => exact hplace
  | finishWith hu hi v => exact hplace
  | send hu hlater => simpa [SeqPos.place] using hlater
  | hold hu hlater => exact hlater

/-! ### The schedule of an empty script (10_state.md R20) -/

/-- A legal state with an empty script outside reset, so that nothing but engine and clock moves. -/
structure State.Unscripted (s : State) : Prop where
  inv : s.Inv
  turns : s.turns = []
  rst : s.rst = false

/-- `t` has less of the command to come than `s`, with the script, `RST` and the latch as they were. -/
structure Advances (s t : State) : Prop where
  turns : t.turns = s.turns
  rst : t.rst = s.rst
  latch : t.latch = s.latch
  shorter : t.stepsLeft < s.stepsLeft

/-- The engine moves unless a wait holds whose time has not come. -/
theorem State.Unscripted.defaultTurn_cases (hs : s.Unscripted) (hbusy : s.status.busy = true) :
    (s.defaultTurn = .engine ∧ ∀ label t0 d flag, s.seq = .hold label t0 d flag → d ≤ s.elapsed t0) ∨
    (s.defaultTurn = .clock ∧ ∃ label t0 d flag, s.seq = .hold label t0 d flag ∧ s.elapsed t0 < d) := by
  unfold State.defaultTurn State.engineReady
  rw [hbusy, hs.rst]
  cases hseq : s.seq with
  | hold label t0 d flag =>
    by_cases hd : d ≤ s.elapsed t0
    · exact .inl ⟨by simp [hd], by rintro _ _ _ _ ⟨⟩; exact hd⟩
    · exact .inr ⟨by simp [hd], _, _, _, _, rfl, Nat.not_le.mp hd⟩
  | _ => exact .inl ⟨rfl, nofun⟩

theorem engineTurn_advances (hs : s.Unscripted) (hbusy : s.status.busy = true)
    (hready : ∀ label t0 d flag, s.seq = .hold label t0 d flag → d ≤ s.elapsed t0) :
    ∃ t, engineTurn s = .next t ∧ Advances s t := by
  obtain ⟨hstop, -⟩ | ⟨-, -, i, hdec, heq⟩ | ⟨-, -, e, hdec, heq⟩ := engineTurn_cases s
  · simp [hs.rst, hbusy] at hstop
  · have hfits := hs.inv.fits i hdec hbusy
    obtain ⟨t, ht⟩ := exec_isNext hfits
    have hstep := stepped_of_exec ht
    have hout := hstep.outside
    simp only [State.outside, Prod.mk.injEq] at hout
    obtain ⟨hparams, -, hlatch, ⟨-, -, hrst⟩, -, hturns⟩ := hout
    have hlater := (effect_of_exec ht).place_lt (Nat.lt_succ_of_le (place_le_of_seqFits hfits)) hready
    exact ⟨t, heq.trans ht, hturns, hrst, hlatch,
      stepsLeft_lt_of_place_lt hparams hlater ((hstep.position hfits).imp And.left And.right)⟩
  · have hstart : s.seq.place < 17 := by simp [hs.inv.unassigned e hdec hbusy, SeqPos.place]
    exact ⟨_, heq, rfl, rfl, rfl, stepsLeft_lt_of_place_lt (i := .nop) rfl hstart (.inl rfl)⟩

theorem clockTick_advances (hs : s.Unscripted) (hbusy : s.status.busy = true) {label d : Nat} {t0 : Word}
    {flag : Bool} (hseq : s.seq = .hold label t0 d flag) (hlt : s.elapsed t0 < d) : Advances s s.clockTick := by
  refine ⟨rfl, rfl, rfl, ?_⟩
  have hd : d ≤ s.params.longestWait := by
    cases hdec : decode s.latch.cmd with
    | ok i =>
      have hfits := hs.inv.fits i hdec hbusy
      simp only [hseq, SeqFits, Bool.and_eq_true, decide_eq_true_eq] at hfits
      exact hfits.2
    | error e => simp [hs.inv.unassigned e hdec hbusy] at hseq
  have hwrap : s.elapsed t0 + 1 < 2 ^ s.params.tw := by
    have := Params.longestWait_lt hs.inv.config
    omega
  have htick := State.elapsed_clockTick (Params.tw_le hs.inv.config) hwrap
  have hleft : s.clockTick.holdLeft < s.holdLeft := by
    rw [State.holdLeft_eq hseq, State.holdLeft_eq (s := s.clockTick) hseq, htick]
    omega
  simp only [State.stepsLeft, State.clockTick_seq, State.clockTick_params]
  omega

/-- A step while a command executes leaves less of it to come. -/
theorem step_advances (hs : s.Unscripted) (hbusy : s.status.busy = true) : ∃ t, step s = .next t ∧ Advances s t := by
  rw [step_of_turns_nil hs.turns]
  obtain ⟨hturn, hready⟩ | ⟨hturn, label, t0, d, flag, hseq, hlt⟩ := hs.defaultTurn_cases hbusy <;> rw [hturn]
  · exact engineTurn_advances hs hbusy hready
  · exact ⟨_, rfl, clockTick_advances hs hbusy hseq hlt⟩

theorem Advances.unscripted (h : Advances s t) (hs : s.Unscripted) (hstep : step s = .next t) : t.Unscripted where
  inv := ((stepKeepsInvariant s hs.inv).2 t hstep).1
  turns := h.turns.trans hs.turns
  rst := h.rst.trans hs.rst

end

theorem run_succ {s t : State} (h : step s = .next t) (k : Nat) :
    Host.Core.run Sys2Proof.core (k + 1) s = Host.Core.run Sys2Proof.core k t := by
  have hcore : Sys2Proof.core.step s = .next t := h
  simp only [Host.Core.run, hcore]

/-- By induction on what is left of the command. -/
theorem State.Unscripted.completes (s : State) (hs : s.Unscripted) :
    ∃ n t, n ≤ s.stepsLeft ∧ Host.Core.run Sys2Proof.core n s = .next t ∧
      t.status.busy = false ∧ t.status.done = true ∧ t.latch = s.latch := by
  cases hbusy : s.status.busy with
  | false => exact ⟨0, s, Nat.zero_le _, rfl, hbusy, by simp [hs.inv.done_iff, hbusy], rfl⟩
  | true =>
    obtain ⟨u, hstep, hadv⟩ := step_advances hs hbusy
    have hshorter := hadv.shorter
    obtain ⟨n, t, hn, hrun, hidle, hdone, hlatch⟩ := State.Unscripted.completes u (hadv.unscripted hs hstep)
    exact ⟨n + 1, t, by omega, (run_succ hstep n).trans hrun, hidle, hdone, hlatch.trans hadv.latch⟩
termination_by s.stepsLeft

/-- Settles O60: a command under way has at most 17 places and two waits left. -/
theorem everyCommandCompletes : Obligations.EveryCommandCompletes := by
  intro s hinv hturns hrst hbusy
  have hle : s.stepsLeft ≤ 2 * s.params.longestWait + 17 := by
    cases hdec : decode s.latch.cmd with
    | ok i => exact stepsLeft_le (hinv.fits i hdec hbusy)
    | error e => exact stepsLeft_le (i := .nop) (by rw [hinv.unassigned e hdec hbusy]; rfl)
  obtain ⟨n, t, hn, hrun⟩ := State.Unscripted.completes s ⟨hinv, hturns, hrst⟩
  exact ⟨n, t, by omega, hrun⟩

end Sys2Proof.Machine
end

section
open Sys2Proof Sys2Proof.Machine
namespace Sys2Proof.Machine

/-! ### The register block and its views (20_memory.md R32 to R34, 10_state.md R17 to R19) -/

theorem exists_hostReg {off : Nat} (halign : off % 4 = 0) (hoff : off < 0x40) : ∃ r, hostReg off = some r := by
  rw [← Option.isSome_iff_exists, hostReg_isSome, decide_eq_true_eq]
  exact ⟨halign, hoff⟩

/-- The registers a host can write lie below 0x14. -/
theorem hostReg_lt_of_writable {off : Nat} {r : HostReg} (hreg : hostReg off = some r) :
    r ∈ [HostReg.cmd, .status, .arg0, .arg1, .arg2] → off < 0x14 := by
  unfold hostReg at hreg
  split at hreg <;> cases hreg <;> decide

theorem State.hostWrite_of_readOnly {r : HostReg} (hr : r ∉ [HostReg.cmd, .status, .arg0, .arg1, .arg2]) (v : Word)
    (s : State) : s.hostWrite r v = s := by
  cases r with
  | cmd | status | arg0 | arg1 | arg2 => simp at hr
  | _ => rfl

/-- Settles O10: every aligned offset of the block has a register, and those from 0x14 on are read-only. -/
theorem hostAccessEffects : Obligations.HostAccessEffects := by
  intro s off v hrst halign hoff
  obtain ⟨r, hreg⟩ := exists_hostReg halign hoff
  refine ⟨⟨r, hreg, takeTurn_read hrst hreg⟩, fun hro => ?_, takeTurn_write (r := .arg0) hrst rfl v,
    takeTurn_write (r := .arg1) hrst rfl v, takeTurn_write (r := .arg2) hrst rfl v⟩
  have hr : r ∉ [HostReg.cmd, .status, .arg0, .arg1, .arg2] := fun hmem =>
    absurd (hostReg_lt_of_writable hreg hmem) (Nat.not_lt.mpr hro)
  rw [takeTurn_write hrst hreg, State.hostWrite_of_readOnly hr]

/-- The fields of `RTDSTATE` (R18). -/
theorem State.rtdstate_fields (s : State) :
    s.rtdstate.extractLsb' 0 8 = s.cfg ∧ s.rtdstate.extractLsb' 8 4 = probeNibble s.rtdProbe ∧
    s.rtdstate.extractLsb' 12 20 = 0#20 := by
  unfold State.rtdstate
  simp (disch := decide) only [BitVec.extractLsb'_append_eq_of_le, BitVec.extractLsb'_append_eq_of_add_le,
    Nat.reduceSub, BitVec.extractLsb'_eq_self, and_self]

/-- The fields of `TCSTATE` (R18). -/
theorem State.tcstate_fields (s : State) :
    s.tcstate.extractLsb' 0 4 = probeNibble s.tcProbe ∧ s.tcstate.extractLsb' 4 4 = 0#4 ∧
    s.tcstate.extractLsb' 8 4 = s.tcMask ∧ s.tcstate.extractLsb' 12 4 = 0#4 ∧
    s.tcstate.extractLsb' 16 4 = s.tcLastFault ∧ s.tcstate.extractLsb' 20 12 = 0#12 := by
  unfold State.tcstate
  simp (disch := decide) only [BitVec.extractLsb'_append_eq_of_le, BitVec.extractLsb'_append_eq_of_add_le,
    Nat.reduceSub, BitVec.extractLsb'_eq_self, and_self]

/-- The fields of `CACHE` (R19). -/
theorem State.cacheWord_fields (s : State) :
    s.cacheWord.extractLsb' 0 4 = probeNibble s.cache.ch0 ∧ s.cacheWord.extractLsb' 4 4 = probeNibble s.cache.ch1 ∧
    s.cacheWord.extractLsb' 8 4 = probeNibble s.cache.ch2 ∧ s.cacheWord.extractLsb' 12 20 = 0#20 := by
  unfold State.cacheWord
  simp (disch := decide) only [BitVec.extractLsb'_append_eq_of_le, BitVec.extractLsb'_append_eq_of_add_le,
    Nat.reduceSub, BitVec.extractLsb'_eq_self, and_self]

/-- The fields of `ENGSTATE` of more than one bit (R17). -/
theorem State.engstate_fields (s : State) :
    s.engstate.extractLsb' 4 2 = rtdStateBits s.rtdState ∧ s.engstate.extractLsb' 6 2 = 0#2 ∧
    s.engstate.extractLsb' 8 8 = channelByte s.curChannel ∧ s.engstate.extractLsb' 16 3 = s.pinSel ∧
    s.engstate.extractLsb' 21 11 = 0#11 := by
  unfold State.engstate
  simp (disch := decide) only [BitVec.extractLsb'_append_eq_of_le, BitVec.extractLsb'_append_eq_of_add_le,
    Nat.reduceSub, BitVec.extractLsb'_eq_self, and_self]

/-- The flags of `ENGSTATE` (R17). -/
theorem State.engstate_flags (s : State) :
    s.engstate.getLsbD 0 = s.tcActive ∧ s.engstate.getLsbD 1 = s.rtdActive ∧ s.engstate.getLsbD 2 = s.outCfg ∧
    s.engstate.getLsbD 3 = (muxStateBit s.muxState).getLsbD 0 ∧ s.engstate.getLsbD 19 = s.pinRoute ∧
    s.engstate.getLsbD 20 = s.reverse := by
  unfold State.engstate
  simp only [BitVec.getLsbD_append, BitVec.getLsbD_ofBool, Nat.reduceLT, Nat.reduceSub, reduceIte, decide_true,
    Bool.true_and, and_self]

theorem muxStateBit_getLsbD_zero (m : MuxState) : (muxStateBit m).getLsbD 0 = decide (m = .switching) := by
  cases m <;> rfl

/-- Settles O11: each offset reads its register, and each view is read field by field. -/
theorem registerBlockReads : Obligations.RegisterBlockReads := by
  intro s hrst code reads
  have hread {off : Nat} (r : HostReg) (hreg : hostReg off = some r) : reads off (s.hostRead r) :=
    takeTurn_read hrst hreg
  have hcode (p : ProbeType) : probeNibble p = code p := by cases p <;> rfl
  obtain ⟨htc, hrtd, hout, hmux, hroute, hreverse⟩ := s.engstate_flags
  obtain ⟨hstate, hgap, hch, hsel, hrest⟩ := s.engstate_fields
  obtain ⟨hcfg, hrtdProbe, hrtdRest⟩ := s.rtdstate_fields
  obtain ⟨htcProbe, hgap4, hmask, hgap12, hfault, htcRest⟩ := s.tcstate_fields
  obtain ⟨hch0, hch1, hch2, hcacheRest⟩ := s.cacheWord_fields
  exact ⟨hread .cmd rfl, hread .status rfl, hread .arg0 rfl, hread .arg1 rfl, hread .arg2 rfl, hread .result rfl,
    hread .engstate rfl, hread .rtdstate rfl, hread .tcstate rfl, hread .tcoffset rfl, hread .cache rfl,
    hread .muxts rfl, hread .rtdts rfl, hread .reserved rfl, hread .reserved rfl, hread .reserved rfl,
    htc, hrtd, hout, hmux.trans (muxStateBit_getLsbD_zero _), hstate.trans (by cases s.rtdState <;> rfl), hgap,
    hch.trans (by rcases s.curChannel with _ | _ | _ | _ <;> rfl), hsel, hroute, hreverse, hrest,
    hcfg, hrtdProbe.trans (hcode _), hrtdRest,
    htcProbe.trans (hcode _), hgap4, hmask, hgap12, hfault, htcRest,
    hch0.trans (hcode _), hch1.trans (hcode _), hch2.trans (hcode _), hcacheRest⟩

end Sys2Proof.Machine
end

section
open Sys2Proof Sys2Proof.Machine
namespace Sys2Proof

/-! ### Operands read from a field (30_encoding.md R47 to R51)

The converse of the round trips of Laws/Ops.lean: an operand read from a field is well formed, and its own field is the
used bits of the one it was read from. -/

theorem chipField_chipOfField (a : Byte) : chipField (chipOfField a) = a &&& 0x01 := by
  revert a; decide

theorem bitField_enOfField (c : Byte) : bitField (enOfField c) = c &&& 0x01 := by
  revert c; decide

theorem setWidth_maskOfField (c : Byte) : (maskOfField c).setWidth 8 = c &&& 0x0F := by
  revert c; decide

theorem codedField_probeOfField (b : Byte) : codedField probeCode (probeOfField b) = b := by
  revert b; decide

theorem codedField_cycleOfField (a : Byte) : codedField cycleCode (cycleOfField a) = a := by
  revert a; decide

theorem codedField_tableOfField (a : Byte) : codedField tableCode (tableOfField a) = a := by
  revert a; decide

theorem codedField_channelOfField (a : Byte) : codedField channelCode (channelOfField a) = a := by
  revert a; decide

theorem probeOfField_wf (b : Byte) : (probeOfField b).wf probeCodes = true := by
  revert b; decide

theorem cycleOfField_wf (a : Byte) : (cycleOfField a).wf cycleCodes = true := by
  revert a; decide

theorem tableOfField_wf (a : Byte) : (tableOfField a).wf tableCodes = true := by
  revert a; decide

theorem channelOfField_wf (a : Byte) : (channelOfField a).wf channelCodes = true := by
  revert a; decide

/-! ### Masked words (R46, R54) -/

/-- A field that is read as a whole. -/
theorem eq_and_all (b : Byte) : b = b &&& 0xFF := BitVec.and_allOnes.symm

/-- Masking a word masks each of its fields. -/
theorem and_mkWord (w : Word) (o a b c : Byte) :
    w &&& mkWord o a b c = mkWord (opcOf w &&& o) (fieldA w &&& a) (fieldB w &&& b) (fieldC w &&& c) := by
  rw [← mkWord_and, mkWord_fields]

/-- A word with the opcode of `w` whose operands are masked fields of `w` is `w` masked. -/
theorem mkWord_eq_and {w : Word} {o a b c : Byte} (m : Word) (ma mb mc : Byte) (hm : m = mkWord 0xFF ma mb mc)
    (hopc : opcOf (mkWord o a b c) = opcOf w) (ha : a = fieldA w &&& ma) (hb : b = fieldB w &&& mb)
    (hc : c = fieldC w &&& mc) : mkWord o a b c = w &&& m := by
  rw [hm, and_mkWord, ← eq_and_all, ← hopc, opcOf_mkWord, ha, hb, hc]

/-- The word of a command without operands. -/
theorem mkWord_opcode_eq_and {w : Word} {o : Byte} (hopc : opcOf (mkWord o 0 0 0) = opcOf w) :
    mkWord o 0 0 0 = w &&& 0xFF000000 :=
  mkWord_eq_and 0xFF000000 0 0 0 (by decide) hopc BitVec.and_zero.symm BitVec.and_zero.symm BitVec.and_zero.symm

/-- Every command reads its whole opcode. -/
theorem opcOf_usedBits (i : Instr) : opcOf i.usedBits = 0xFF := by
  cases i <;> simp only [Instr.usedBits] <;> decide

theorem opcOf_and_usedBits (w : Word) (i : Instr) : opcOf (w &&& i.usedBits) = opcOf w := by
  rw [← mkWord_fields i.usedBits, and_mkWord, opcOf_mkWord, opcOf_usedBits, ← eq_and_all]

/-! ### What a decoded word holds (R47, R52) -/

/-- The opcode alone selects the command, and with it the bits that are read. -/
theorem exists_decode_of_opcOf_eq {w w' : Word} {i : Instr} (hopc : opcOf w' = opcOf w) (h : decode w = .ok i) :
    ∃ j, decode w' = .ok j ∧ j.usedBits = i.usedBits := by
  unfold decode at h ⊢
  rw [hopc]
  split at h <;> cases h <;> exact ⟨_, rfl, rfl⟩

theorem wf_of_decode {w : Word} {i : Instr} (h : decode w = .ok i) : i.wf = true := by
  unfold decode at h
  split at h <;> cases h <;>
    simp [Instr.wf, probeOfField_wf, cycleOfField_wf, tableOfField_wf, channelOfField_wf]

theorem opcOf_encode_of_decode {w : Word} {i : Instr} (h : decode w = .ok i) : opcOf (encode i) = opcOf w := by
  unfold decode at h
  split at h <;> cases h <;> rename_i hopc <;>
    exact (opcOf_mkWord ..).trans (BitVec.eq_of_toNat_eq hopc.symm)

theorem decode_encode {i : Instr} (h : i.wf = true) : decode (encode i) = .ok i := by
  cases i with
  | rtdSetType p | tcSetType p => simp [encode, decode, probeOfField_codedField h]
  | rtdReadFault c => simp [encode, decode, cycleOfField_codedField h]
  | polyEval t => simp [encode, decode, tableOfField_codedField h]
  | muxSel c p | muxSelAsync c p =>
    obtain ⟨hc, hp⟩ := Bool.and_eq_true_iff.mp h
    simp [encode, decode, channelOfField_codedField hc, probeOfField_codedField hp]
  | _ => simp [encode, decode]

/-- Each operand is the one its field holds, so its own field is the used bits of that one (R47). -/
theorem encode_of_decode {w : Word} {i : Instr} (h : decode w = .ok i) : encode i = w &&& i.usedBits := by
  have hopc := opcOf_encode_of_decode h
  cases i with
  | spiRd8 chip addr | spiRd16 chip addr =>
    obtain ⟨rfl, rfl⟩ : chipOfField (fieldA w) = chip ∧ fieldB w = addr := by
      simpa [decode, ← hopc, encode] using h
    exact mkWord_eq_and 0xFF01FF00 0x01 0xFF 0 (by decide) hopc
      (chipField_chipOfField _) (eq_and_all _) BitVec.and_zero.symm
  | spiWr8 chip addr value =>
    obtain ⟨rfl, rfl, rfl⟩ : chipOfField (fieldA w) = chip ∧ fieldB w = addr ∧ fieldC w = value := by
      simpa [decode, ← hopc, encode] using h
    exact mkWord_eq_and 0xFF01FFFF 0x01 0xFF 0xFF (by decide) hopc
      (chipField_chipOfField _) (eq_and_all _) (eq_and_all _)
  | rtdSetType p | tcSetType p =>
    obtain rfl : probeOfField (fieldB w) = p := by simpa [decode, ← hopc, encode] using h
    exact mkWord_eq_and 0xFF00FF00 0 0xFF 0 (by decide) hopc BitVec.and_zero.symm
      ((codedField_probeOfField _).trans (eq_and_all _)) BitVec.and_zero.symm
  | rtdSetAuto en | rtdSet50Hz en | rtdSetBias en =>
    obtain rfl : enOfField (fieldC w) = en := by simpa [decode, ← hopc, encode] using h
    exact mkWord_eq_and 0xFF000001 0 0 0x01 (by decide) hopc
      BitVec.and_zero.symm BitVec.and_zero.symm (bitField_enOfField _)
  | rtdReadFault cycle =>
    obtain rfl : cycleOfField (fieldA w) = cycle := by simpa [decode, ← hopc, encode] using h
    exact mkWord_eq_and 0xFFFF0000 0xFF 0 0 (by decide) hopc
      ((codedField_cycleOfField _).trans (eq_and_all _)) BitVec.and_zero.symm BitVec.and_zero.symm
  | tcSetFaultMask mask =>
    obtain rfl : maskOfField (fieldC w) = mask := by simpa [decode, ← hopc, encode] using h
    exact mkWord_eq_and 0xFF00000F 0 0 0x0F (by decide) hopc
      BitVec.and_zero.symm BitVec.and_zero.symm (setWidth_maskOfField _)
  | muxSel c p | muxSelAsync c p =>
    obtain ⟨rfl, rfl⟩ : channelOfField (fieldA w) = c ∧ probeOfField (fieldB w) = p := by
      simpa [decode, ← hopc, encode] using h
    exact mkWord_eq_and 0xFFFFFF00 0xFF 0xFF 0 (by decide) hopc
      ((codedField_channelOfField _).trans (eq_and_all _))
      ((codedField_probeOfField _).trans (eq_and_all _)) BitVec.and_zero.symm
  | polyEval table =>
    obtain rfl : tableOfField (fieldA w) = table := by simpa [decode, ← hopc, encode] using h
    exact mkWord_eq_and 0xFFFF0000 0xFF 0 0 (by decide) hopc
      ((codedField_tableOfField _).trans (eq_and_all _)) BitVec.and_zero.symm BitVec.and_zero.symm
  | _ => exact mkWord_opcode_eq_and hopc

/-- The words of a command: those with its word's used bits. -/
theorem decode_eq_ok_iff {w : Word} {i : Instr} :
    decode w = .ok i ↔ i.wf = true ∧ w &&& i.usedBits = encode i := by
  constructor
  · exact fun h => ⟨wf_of_decode h, (encode_of_decode h).symm⟩
  · rintro ⟨hwf, hword⟩
    have hopc : opcOf w = opcOf (encode i) := by rw [← hword, opcOf_and_usedBits]
    obtain ⟨j, hj, hused⟩ := exists_decode_of_opcOf_eq hopc (decode_encode hwf)
    have hencode : encode j = encode i := by rw [encode_of_decode hj, hused, hword]
    calc decode w = .ok j := hj
      _ = decode (encode j) := (decode_encode (wf_of_decode hj)).symm
      _ = .ok i := by rw [hencode, decode_encode hwf]

/-! ### The statements -/

/-- Settles O1: every operand is read back from its field. -/
theorem decodeOfEncode : Obligations.DecodeOfEncode :=
  fun _ => decode_encode

/-- Settles O2: the forward direction of the words of a command. -/
theorem encodeOfDecode : Obligations.EncodeOfDecode :=
  fun _ _ h => ⟨wf_of_decode h, encode_of_decode h⟩

/-- Settles O3: the used bits fix the command, since the command's word is made of them. -/
theorem unusedBitsIgnored : Obligations.UnusedBitsIgnored := by
  intro w w' i h hagree
  obtain ⟨hwf, hword⟩ := decode_eq_ok_iff.mp h
  exact decode_eq_ok_iff.mpr ⟨hwf, hagree.trans hword⟩

/-- Settles O5: an example word has the used bits of its command's word, and a program's words are those of its
commands. -/
theorem exampleWordsDecode : Obligations.ExampleWordsDecode := by
  have hspi : encode (.spiRd8 .rtd 0x07) = 0x01000700#32 := by decide
  have hmux : encode (.muxSel (.known .ch1) (.known .rtd3W)) = 0x30010500#32 := by decide
  have hbias : encode (.rtdSetBias true) = 0x16000001#32 := by decide
  have hfault : encode (.rtdReadFault (.known .auto)) = 0x17010000#32 := by decide
  have hpoly : encode (.polyEval (.known .invK)) = 0x50030000#32 := by decide
  refine ⟨hspi ▸ decode_encode rfl, hspi, hmux ▸ decode_encode rfl, hmux, hbias ▸ decode_encode rfl, hbias,
    hfault ▸ decode_encode rfl, hfault, hpoly ▸ decode_encode rfl, hpoly, ?_, ?_, ?_, ?_⟩
  · exact decode_eq_ok_iff.mpr ⟨rfl, by decide⟩
  · exact decode_eq_ok_iff.mpr ⟨rfl, by decide⟩
  · exact decode_eq_ok_iff.mpr ⟨rfl, by decide⟩
  · decide

end Sys2Proof
end

section
open Sys2Proof Sys2Proof.Machine
namespace Sys2Proof.Machine

/-! ### Commands of one transfer: the transaction, then the end -/

/-- The end behind a transfer leaves the transaction, `OK` and no command. -/
theorem State.send_finish_true (chip : Chip) (mosi : List Byte) (pos : SeqPos) (s : State) :
    (s.send chip mosi pos).finish true =
      { s.spiXfer chip mosi with
        seq := .idle, status := { s.status with busy := false, done := true, ok := true } } := by
  cases chip <;> rfl

/-- The end with a result behind a transfer leaves that result besides. -/
theorem State.send_finishWith (chip : Chip) (mosi : List Byte) (pos : SeqPos) (v : Word) (s : State) :
    (s.send chip mosi pos).finishWith v =
      { s.spiXfer chip mosi with
        result := v
        seq := .idle, status := { s.status with busy := false, done := true, ok := true } } := by
  cases chip <;> rfl

section
variable {i : Instr} {s t : State} {chip : Chip} {mosi : List Byte} {label : Nat} {rx : Word} {flag : Bool}

/-- A command that sends and then ends: `t` is what its actions before the transaction leave. -/
theorem exec_send_then_finish (hsend : exec i s = .next (t.send chip mosi (.sent label rx flag)))
    (hend : ∀ u : State, u.seq = .sent label rx flag → exec i u = .next (u.finish true)) :
    ∃ u, exec i s = .next u ∧ exec i u = .next
      { t.spiXfer chip mosi with
        seq := .idle, status := { t.status with busy := false, done := true, ok := true } } :=
  ⟨_, hsend, (hend _ (State.send_seq ..)).trans (congrArg _ (State.send_finish_true ..))⟩

/-- A command that receives and then ends with a result made of the bytes the chip answers. -/
theorem exec_recv_then_finishWith {answer : List Byte} {v : Word} (hmiso : t.miso mosi.length = answer)
    (hrecv : exec i s = .next (t.recv chip mosi label flag))
    (hend : ∀ u : State, u.seq = .sent label (rxWord answer) flag → exec i u = .next (u.finishWith v)) :
    ∃ u, exec i s = .next u ∧ exec i u = .next
      { t.spiXfer chip mosi with
        result := v
        seq := .idle, status := { t.status with busy := false, done := true, ok := true } } := by
  subst hmiso
  exact ⟨_, hrecv, (hend _ (State.send_seq ..)).trans (congrArg _ (State.send_finishWith ..))⟩

end

/-! ### Bus transport: the points of each body (40_bus_transport.md R63 to R67) -/

section
variable {s : State} {chip : Chip} {rx : Word} {flag : Bool}

theorem exec_nop_start (hseq : s.seq = .start) : exec .nop s = .next (s.finish true) := by
  simp only [exec, execNop, hseq]

theorem exec_spiRd8_start (hseq : s.seq = .start) (hactive : s.chipActive chip = true) (addr : Byte) :
    exec (.spiRd8 chip addr) s = .next (s.recv chip [addr &&& 0x7F#8, s.params.fill] 1 false) := by
  simp only [exec, execSpiRd8, hseq, hactive, if_true, Params.readByteMosi, readAddr]

theorem exec_spiRd8_sent (hseq : s.seq = .sent 1 rx flag) (addr : Byte) :
    exec (.spiRd8 chip addr) s = .next (s.finishWith ((rxByte rx).setWidth 32)) := by
  simp only [exec, execSpiRd8, hseq]

theorem exec_spiRd16_start (hseq : s.seq = .start) (hactive : s.chipActive chip = true) (addr : Byte) :
    exec (.spiRd16 chip addr) s =
      .next (s.recv chip [addr &&& 0x7F#8, s.params.fill, s.params.fill] 1 false) := by
  simp only [exec, execSpiRd16, hseq, hactive, if_true, Params.readWordMosi, readAddr]

theorem exec_spiRd16_sent (hseq : s.seq = .sent 1 rx flag) (addr : Byte) :
    exec (.spiRd16 chip addr) s = .next (s.finishWith ((rxHalf rx).setWidth 32)) := by
  simp only [exec, execSpiRd16, hseq]

theorem exec_spiWr8_start (hseq : s.seq = .start) (hactive : s.chipActive chip = true) (addr value : Byte) :
    exec (.spiWr8 chip addr value) s = .next (s.recv chip [addr ||| 0x80#8, value] 1 false) := by
  simp only [exec, execSpiWr8, hseq, hactive, if_true, writeByteMosi, writeAddr]

theorem exec_spiWr8_sent (hseq : s.seq = .sent 1 rx flag) (addr value : Byte) :
    exec (.spiWr8 chip addr value) s = .next (s.finish true) := by
  simp only [exec, execSpiWr8, hseq]

theorem exec_tcRd32_start (hseq : s.seq = .start) (hactive : s.tcActive = true) :
    exec .tcRd32 s =
      .next (s.recv .tc [s.params.fill, s.params.fill, s.params.fill, s.params.fill] 1 false) := by
  simp only [exec, execTcRd32, hseq, hactive, if_true, Params.readSensorMosi]

theorem exec_tcRd32_sent (hseq : s.seq = .sent 1 rx flag) : exec .tcRd32 s = .next (s.finishWith rx) := by
  simp only [exec, execTcRd32, hseq]

end

/-! ### The statements -/

/-- Settles O23: the all-zero word is the word of `NOP`, whose body is its end. -/
theorem nopCompletes : Obligations.NopCompletes := by
  have hword : encode .nop = 0x00000000#32 := by decide
  exact ⟨hword ▸ decode_encode rfl, fun s => exec_nop_start⟩

/-- Settles O24: each read is one transfer and an end, whose result is the data bytes of the answer. -/
theorem rawReadsComplete : Obligations.RawReadsComplete := by
  intro s chip addr m0 m1 m2 m3 hseq hactive
  refine ⟨fun hmiso => ?_, fun hmiso => ?_, fun hchip hmiso => ?_⟩
  · refine exec_recv_then_finishWith hmiso (exec_spiRd8_start hseq hactive addr) fun u hu => ?_
    rw [exec_spiRd8_sent hu, rxByte_rxWord]
  · refine exec_recv_then_finishWith hmiso (exec_spiRd16_start hseq hactive addr) fun u hu => ?_
    rw [exec_spiRd16_sent hu, rxHalf_rxWord]
  · subst hchip
    refine exec_recv_then_finishWith hmiso (exec_tcRd32_start hseq hactive) fun u hu => ?_
    rw [exec_tcRd32_sent hu, rxWord_four]

/-- Settles O25: a write is one transfer, whose answer is discarded, and an end. -/
theorem rawWriteCompletes : Obligations.RawWriteCompletes := by
  intro s chip addr value hseq hactive
  exact exec_send_then_finish (exec_spiWr8_start hseq hactive addr value) fun u hu =>
    exec_spiWr8_sent hu addr value

end Sys2Proof.Machine
end

section
open Sys2Proof Sys2Proof.Machine
namespace Sys2Proof.Machine

/-! ### Rows of steps and waits, as statements about one command write them -/

/-- A row of one step. -/
theorem engineSteps_one (i : Instr) (s : State) : engineSteps i 1 s = exec i s := by
  unfold engineSteps
  cases exec i s <;> rfl

/-- A row of two steps. -/
theorem engineSteps_two {i : Instr} {s t u : State} (hfirst : exec i s = .next t) (hsecond : exec i t = .next u) :
    engineSteps i 2 s = .next u :=
  (engineSteps_succ hfirst).trans ((engineSteps_one i t).trans hsecond)

/-- The engine at a point of a body. -/
def State.goTo (pos : SeqPos) (s : State) : State := { s with seq := pos }

/-- A command that enters a wait of `d` in state `x`: before the wait's time its step changes nothing, whenever it is
taken, and from then on the step goes on to `go n` (00_scope.md R9). -/
theorem exec_wait {i : Instr} {u x : State} {label d : Nat} {flag : Bool} {go : Word → State}
    (henter : exec i u = .next (x.wait label d flag))
    (hhold : ∀ n, exec i (({ x with now := n } : State).goTo (.hold label x.now d flag)) =
      whenElapsed x.now d (({ x with now := n } : State).goTo (.hold label x.now d flag)) (go n)) :
    ∃ v, exec i u = .next v ∧ v = { x with seq := v.seq } ∧ v.seq ≠ .idle ∧
      ∀ n : Word,
        ((n - x.now).toNat % 2 ^ x.params.tw < d → exec i { v with now := n } = .next { v with now := n }) ∧
        (d ≤ (n - x.now).toNat % 2 ^ x.params.tw → exec i { v with now := n } = .next (go n)) :=
  ⟨_, henter, rfl, nofun, fun n =>
    ⟨fun h => (hhold n).trans (whenElapsed_of_lt h), fun h => (hhold n).trans (whenElapsed_of_le h)⟩⟩

theorem State.waitThen_of_eq_zero {d : Nat} (h : d = 0) (s : State) (label : Nat) (flag : Bool) (go : State) :
    s.waitThen label d flag go = go := if_pos h

/-! ### The mirror and the sample (41_rtd_engine.md R71, R72, R83) -/

/-- `CfgWrite` without a strobe writes the mirror. -/
theorem State.cfgWrite_zero (s : State) (pos : SeqPos) :
    s.cfgWrite 0 pos = s.send .rtd [s.params.rtdAddrConfig ||| 0x80#8, s.cfg] pos := by
  simp [writeAddr]

/-- The wire bit follows the probe (R74). -/
theorem State.rtdType_eq (p : ProbeType) (s : State) :
    s.rtdType p =
      { s with
        cfg := if p = .rtd3W then s.cfg ||| s.params.cfgWire3 else s.cfg &&& ~~~s.params.cfgWire3
        rtdProbe := p } := by
  by_cases h : p = .rtd3W <;> simp [State.rtdType, State.setWire3, putBits, h]

/-- The filter bit chooses between two times. -/
theorem State.ite_filter50 (s : State) (a b : Nat) :
    (if s.filter50 then a else b) = if s.cfg &&& s.params.cfgFilter50 = 0#8 then b else a := by
  by_cases h : s.cfg &&& s.params.cfgFilter50 = 0#8 <;> simp [State.filter50, hasBits, h]

/-- The 15-bit code is the sample without its fault bit. -/
theorem rtdCode_rxWord (a b c : Byte) : rtdCode (rxWord [a, b, c]) = BitVec.ofNat 32 ((b ++ c).toNat / 2) := by
  have hlt := (b ++ c).isLt
  rw [rtdCode, rxHalf_rxWord]
  apply BitVec.eq_of_toNat_eq
  rw [BitVec.toNat_setWidth, BitVec.toNat_ushiftRight, BitVec.toNat_ofNat, Nat.shiftRight_eq_div_pow, pow_one]

/-! ### The points of the setters and the threshold commands (R74 to R80, R82) -/

section
variable {s : State} {rx : Word} {flag : Bool}

theorem exec_rtdSetType_start (hseq : s.seq = .start) (hactive : s.rtdActive = true) (p : ProbeType) :
    exec (.rtdSetType (.known p)) s = .next ((s.rtdType p).cfgWrite 0 (.sent 1 0 false)) := by
  simp only [exec, execRtdSetType, hseq, ifRtdActive, hactive, if_true]

theorem exec_rtdSetType_sent (hseq : s.seq = .sent 1 rx flag) (p : ProbeType) :
    exec (.rtdSetType (.known p)) s = .next (s.finish true) := by
  simp only [exec, execRtdSetType, hseq]

/-- `RTD_SET_THRESH` makes one write at its start and at each of its first three points. -/
theorem exec_rtdSetThresh_start (hseq : s.seq = .start) (hactive : s.rtdActive = true) :
    exec .rtdSetThresh s = .next
      ((s.spiXfer .rtd [s.params.rtdAddrLftMsb ||| 0x80#8, lowerMsb s.latch.arg0]).goTo (.sent 1 0 false)) := by
  simp only [exec, execRtdSetThresh, hseq, ifRtdActive, hactive, if_true]
  rfl

theorem exec_rtdSetThresh_sent_one : exec .rtdSetThresh (s.goTo (.sent 1 rx flag)) = .next
    ((s.spiXfer .rtd [s.params.rtdAddrLftLsb ||| 0x80#8, lowerLsb s.latch.arg0]).goTo (.sent 2 0 false)) := rfl

theorem exec_rtdSetThresh_sent_two : exec .rtdSetThresh (s.goTo (.sent 2 rx flag)) = .next
    ((s.spiXfer .rtd [s.params.rtdAddrHftMsb ||| 0x80#8, upperMsb s.latch.arg0]).goTo (.sent 3 0 false)) := rfl

theorem exec_rtdSetThresh_sent_three : exec .rtdSetThresh (s.goTo (.sent 3 rx flag)) = .next
    ((s.spiXfer .rtd [s.params.rtdAddrHftLsb ||| 0x80#8, upperLsb s.latch.arg0]).goTo (.sent 4 0 false)) := rfl

theorem exec_rtdSetThresh_sent_four : exec .rtdSetThresh (s.goTo (.sent 4 rx flag)) = .next (s.finish true) := rfl

theorem exec_rtdGetLower_start (hseq : s.seq = .start) (hactive : s.rtdActive = true) :
    exec .rtdGetLower s = .next (s.recv .rtd (s.params.readWordMosi s.params.rtdAddrLftMsb) 1 false) := by
  simp only [exec, execRtdGetLower, hseq, ifRtdActive, hactive, if_true]

theorem exec_rtdGetLower_sent (hseq : s.seq = .sent 1 rx flag) :
    exec .rtdGetLower s = .next (s.finishWith ((rxHalf rx).setWidth 32)) := by
  simp only [exec, execRtdGetLower, hseq]

theorem exec_rtdGetUpper_start (hseq : s.seq = .start) (hactive : s.rtdActive = true) :
    exec .rtdGetUpper s = .next (s.recv .rtd (s.params.readWordMosi s.params.rtdAddrHftMsb) 1 false) := by
  simp only [exec, execRtdGetUpper, hseq, ifRtdActive, hactive, if_true]

theorem exec_rtdGetUpper_sent (hseq : s.seq = .sent 1 rx flag) :
    exec .rtdGetUpper s = .next (s.finishWith ((rxHalf rx).setWidth 32)) := by
  simp only [exec, execRtdGetUpper, hseq]

theorem exec_rtdSetAuto_start (hseq : s.seq = .start) (hactive : s.rtdActive = true) (en : Bool) :
    exec (.rtdSetAuto en) s = .next ((s.setAuto en).cfgWrite 0 (.sent 1 0 s.continuous)) := by
  simp only [exec, execRtdSetAuto, hseq, ifRtdActive, hactive, if_true]

/-- Behind the write, `RTD_SET_AUTO` ends unless it has just enabled the mode and the time is not 0. -/
theorem exec_rtdSetAuto_sent (hseq : s.seq = .sent 1 rx flag) {en : Bool}
    (hno : en = false ∨ flag = true ∨ s.autoTime = 0) : exec (.rtdSetAuto en) s = .next (s.finish true) := by
  simp only [exec, execRtdSetAuto, hseq]
  split
  · have htime : s.autoTime = 0 := by simp_all
    rw [htime, State.waitThen_zero]
  · rfl

theorem exec_rtdSetAuto_sent_enabling (hseq : s.seq = .sent 1 rx false) (htime : s.autoTime ≠ 0) :
    exec (.rtdSetAuto true) s = .next (s.wait 2 s.autoTime false) := by
  simp only [exec, execRtdSetAuto, hseq, Bool.not_false, Bool.and_self, if_true, State.waitThen_of_ne htime]

theorem exec_rtdSetAuto_hold (en : Bool) (t0 : Word) (d : Nat) :
    exec (.rtdSetAuto en) (s.goTo (.hold 2 t0 d flag)) =
      whenElapsed t0 d (s.goTo (.hold 2 t0 d flag)) (s.finish true) := rfl

theorem exec_rtdSet50Hz_start (hseq : s.seq = .start) (hactive : s.rtdActive = true) (en : Bool) :
    exec (.rtdSet50Hz en) s = .next ((s.setFilter50 en).cfgWrite 0 (.sent 1 0 false)) := by
  simp only [exec, execRtdSet50Hz, hseq, ifRtdActive, hactive, if_true]

theorem exec_rtdSet50Hz_sent (hseq : s.seq = .sent 1 rx flag) (en : Bool) :
    exec (.rtdSet50Hz en) s = .next (s.finish true) := by
  simp only [exec, execRtdSet50Hz, hseq]

theorem exec_rtdSetBias_start (hseq : s.seq = .start) (hactive : s.rtdActive = true) (en : Bool) :
    exec (.rtdSetBias en) s = .next ((s.setBias en).cfgWrite 0 (.sent 1 0 false)) := by
  simp only [exec, execRtdSetBias, hseq, ifRtdActive, hactive, if_true]

theorem exec_rtdSetBias_sent (hseq : s.seq = .sent 1 rx flag) (en : Bool) :
    exec (.rtdSetBias en) s = .next (s.finish true) := by
  simp only [exec, execRtdSetBias, hseq]

theorem exec_rtdClearFault_start (hseq : s.seq = .start) (hactive : s.rtdActive = true) :
    exec .rtdClearFault s = .next (s.cfgWrite s.params.cfgFclear (.sent 1 0 false)) := by
  simp only [exec, execRtdClearFault, hseq, ifRtdActive, hactive, if_true]

theorem exec_rtdClearFault_sent (hseq : s.seq = .sent 1 rx flag) :
    exec .rtdClearFault s = .next (s.finish true) := by
  simp only [exec, execRtdClearFault, hseq]

end

/-! ### The setters and the threshold commands -/

/-- A command that writes the mirror of `t` and then ends. -/
theorem exec_cfgWrite_then_finish {i : Instr} {s t : State} {flag : Bool}
    (hsend : exec i s = .next (t.cfgWrite 0 (.sent 1 0 flag)))
    (hend : ∀ u : State, u.seq = .sent 1 0 flag → exec i u = .next (u.finish true)) :
    ∃ u, exec i s = .next u ∧ exec i u = .next
      { t.spiXfer .rtd [t.params.rtdAddrConfig ||| 0x80#8, t.cfg] with
        seq := .idle, status := { t.status with busy := false, done := true, ok := true } } :=
  exec_send_then_finish (hsend.trans (congrArg _ (t.cfgWrite_zero _))) hend

/-- Settles O26: each setter is the write of its mirror and an end. -/
theorem rtdSettersComplete : Obligations.RtdSettersComplete := by
  intro s p en hseq hactive
  refine ⟨?_, ?_, ?_, ?_⟩
  · have hstart := exec_rtdSetType_start hseq hactive p
    rw [State.rtdType_eq] at hstart
    exact exec_cfgWrite_then_finish hstart fun u hu => exec_rtdSetType_sent hu p
  · exact exec_cfgWrite_then_finish (exec_rtdSet50Hz_start hseq hactive en) fun u hu => exec_rtdSet50Hz_sent hu en
  · exact exec_cfgWrite_then_finish (exec_rtdSetBias_start hseq hactive en) fun u hu => exec_rtdSetBias_sent hu en
  · exact exec_send_then_finish (exec_rtdClearFault_start hseq hactive) fun u hu => exec_rtdClearFault_sent hu

/-- Settles O27: the four writes are the four points of the body, and each read is one transfer and an end. -/
theorem thresholdCommandsComplete : Obligations.ThresholdCommandsComplete := by
  intro s hseq hactive
  have hstart := exec_rtdSetThresh_start hseq hactive
  refine ⟨⟨_, hstart⟩, ?_, fun m0 m1 m2 hmiso => ⟨?_, ?_⟩⟩
  · have hrow : engineSteps .rtdSetThresh 5 s = .next
        (((((s.spiXfer .rtd [s.params.rtdAddrLftMsb ||| 0x80#8, lowerMsb s.latch.arg0]).spiXfer .rtd
          [s.params.rtdAddrLftLsb ||| 0x80#8, lowerLsb s.latch.arg0]).spiXfer .rtd
          [s.params.rtdAddrHftMsb ||| 0x80#8, upperMsb s.latch.arg0]).spiXfer .rtd
          [s.params.rtdAddrHftLsb ||| 0x80#8, upperLsb s.latch.arg0]).finish true) := by
      rw [engineSteps_succ hstart, engineSteps_succ exec_rtdSetThresh_sent_one,
        engineSteps_succ exec_rtdSetThresh_sent_two, engineSteps_succ exec_rtdSetThresh_sent_three, engineSteps_one,
        exec_rtdSetThresh_sent_four]
      simp only [State.spiXfer_params, State.spiXfer_latch]
    exact hrow
  · refine exec_recv_then_finishWith hmiso (exec_rtdGetLower_start hseq hactive) fun u hu => ?_
    rw [exec_rtdGetLower_sent hu, rxHalf_rxWord]
  · refine exec_recv_then_finishWith hmiso (exec_rtdGetUpper_start hseq hactive) fun u hu => ?_
    rw [exec_rtdGetUpper_sent hu, rxHalf_rxWord]

/-- Settles O28: behind the write, only the transition from disabled to enabled meets the wait. -/
theorem setAutoCompletes : Obligations.SetAutoCompletes := by
  intro s en hseq hactive cfg sent ended d
  have hstart := (exec_rtdSetAuto_start hseq hactive en).trans (congrArg _ (State.cfgWrite_zero _ _))
  have htime : (s.setAuto en).autoTime = d := State.ite_filter50 ..
  refine ⟨_, hstart, fun hno => ?_, ?_⟩
  · exact (exec_rtdSetAuto_sent (State.send_seq ..) (htime ▸ hno)).trans (congrArg _ (State.send_finish_true ..))
  · rintro rfl hcont hd
    rw [hcont, ← htime]
    exact exec_wait (exec_rtdSetAuto_sent_enabling (State.send_seq ..) (htime ▸ hd))
      fun n => exec_rtdSetAuto_hold true ..

/-! ### `RTD_READ_FAULT` (R81) -/

section
variable {s : State} {rx : Word} {flag : Bool}

theorem exec_rtdReadFault_none_start (hseq : s.seq = .start) (hactive : s.rtdActive = true) :
    exec (.rtdReadFault (.known .none)) s =
      .next (s.recv .rtd (s.params.readByteMosi s.params.rtdAddrFault) 3 false) := by
  simp only [exec, execRtdReadFault_none, hseq, ifRtdActive, hactive, if_true]

theorem exec_rtdReadFault_none_sent (hseq : s.seq = .sent 3 rx flag) :
    exec (.rtdReadFault (.known .none)) s = .next (s.finishWith ((rxByte rx).setWidth 32)) := by
  simp only [exec, execRtdReadFault_none, hseq]

theorem exec_rtdReadFault_manualRun_start (hseq : s.seq = .start) (hactive : s.rtdActive = true) :
    exec (.rtdReadFault (.known .manualRun)) s = .next (s.faultWrite s.params.fltTrigManualRun (.sent 1 0 false)) := by
  simp only [exec, execRtdReadFault_manualRun, hseq, ifRtdActive, hactive, if_true]

theorem exec_rtdReadFault_manualRun_sent (hseq : s.seq = .sent 1 rx flag) :
    exec (.rtdReadFault (.known .manualRun)) s =
      .next ((s.faultMirror s.params.fltTrigManualRun).finishWith 0) := by
  simp only [exec, execRtdReadFault_manualRun, hseq]

theorem exec_rtdReadFault_manualFinish_start (hseq : s.seq = .start) (hactive : s.rtdActive = true) :
    exec (.rtdReadFault (.known .manualFinish)) s =
      .next (s.faultWrite s.params.fltTrigManualFinish (.sent 1 0 false)) := by
  simp only [exec, execRtdReadFault_manualFinish, hseq, ifRtdActive, hactive, if_true]

theorem exec_rtdReadFault_manualFinish_sent (hseq : s.seq = .sent 1 rx flag) :
    exec (.rtdReadFault (.known .manualFinish)) s =
      .next ((s.faultMirror s.params.fltTrigManualFinish).finishWith 0) := by
  simp only [exec, execRtdReadFault_manualFinish, hseq]

theorem exec_rtdReadFault_auto_start (hseq : s.seq = .start) (hactive : s.rtdActive = true) :
    exec (.rtdReadFault (.known .auto)) s = .next (s.faultWrite s.params.fltTrigAuto (.sent 1 0 false)) := by
  simp only [exec, execRtdReadFault_auto, hseq, ifRtdActive, hactive, if_true]

theorem exec_rtdReadFault_auto_sent_one (hseq : s.seq = .sent 1 rx flag) :
    exec (.rtdReadFault (.known .auto)) s = .next
      ((s.faultMirror s.params.fltTrigAuto).waitThen 2 s.params.tFaultAuto false
        ((s.faultMirror s.params.fltTrigAuto).recv .rtd (s.params.readByteMosi s.params.rtdAddrFault) 3 false)) := by
  simp only [exec, execRtdReadFault_auto, hseq]

theorem exec_rtdReadFault_auto_hold (t0 : Word) (d : Nat) :
    exec (.rtdReadFault (.known .auto)) (s.goTo (.hold 2 t0 d flag)) =
      whenElapsed t0 d (s.goTo (.hold 2 t0 d flag))
        (s.recv .rtd (s.params.readByteMosi s.params.rtdAddrFault) 3 false) := rfl

/-- Behind the read of the fault register, the automatic cycle ends with the byte it answers. -/
theorem exec_rtdReadFault_auto_delivers {m0 m1 : Byte} (hmiso : s.miso 2 = [m0, m1]) :
    exec (.rtdReadFault (.known .auto))
        (s.recv .rtd (s.params.readByteMosi s.params.rtdAddrFault) 3 false) =
      .next { s.spiXfer .rtd [s.params.rtdAddrFault &&& 0x7F#8, s.params.fill] with
        result := m1.setWidth 32
        seq := .idle, status := { s.status with busy := false, done := true, ok := true } } := by
  have hrx : rxByte (rxWord (s.miso 2)) = m1 := by rw [hmiso, rxByte_rxWord]
  rw [← hrx]
  rfl

end

/-- Settles O29, cycle by cycle. -/
theorem readFaultCompletes : Obligations.ReadFaultCompletes := by
  intro s m0 m1 hseq hactive ended keep persist addr fault
  refine ⟨fun hmiso => ?_, ?_, ?_⟩
  · refine exec_recv_then_finishWith hmiso (exec_rtdReadFault_none_start hseq hactive) fun u hu => ?_
    rw [exec_rtdReadFault_none_sent hu, rxByte_rxWord]
  · rintro c trig (⟨rfl, rfl⟩ | ⟨rfl, rfl⟩)
    · exact ⟨_, exec_rtdReadFault_manualRun_start hseq hactive, exec_rtdReadFault_manualRun_sent rfl⟩
    · exact ⟨_, exec_rtdReadFault_manualFinish_start hseq hactive, exec_rtdReadFault_manualFinish_sent rfl⟩
  · intro sent
    have hsent := exec_rtdReadFault_auto_sent_one (s := s.faultWrite s.params.fltTrigAuto (.sent 1 0 false)) rfl
    refine ⟨_, exec_rtdReadFault_auto_start hseq hactive, fun htime => ?_, fun htime hmiso => ?_⟩
    · obtain ⟨v, hv, hframe, hidle, hwait⟩ :=
        exec_wait (hsent.trans (congrArg _ (State.waitThen_of_ne htime ..))) fun n => exec_rtdReadFault_auto_hold ..
      exact ⟨v, hv, hframe, hidle, fun n => ⟨(hwait n).1, fun hle hmiso =>
        engineSteps_two ((hwait n).2 hle) (exec_rtdReadFault_auto_delivers hmiso)⟩⟩
    · exact engineSteps_two (hsent.trans (congrArg _ (State.waitThen_of_eq_zero htime ..)))
        (exec_rtdReadFault_auto_delivers hmiso)

end Sys2Proof.Machine
end

section
open Sys2Proof Sys2Proof.Machine
namespace Sys2Proof.Machine

/-! ### The transactions of a conversion (41_rtd_engine.md R71, R83, R84)

They name the configuration and the bytes, which a body's transactions leave as they were at its start. -/

/-- A write of the config register. -/
def State.configSent (c : Params) (byte : Byte) (s : State) : State :=
  s.spiXfer .rtd [c.rtdAddrConfig ||| 0x80#8, byte]

/-- The mirror written, and the config register with it. -/
def State.mirrorSent (c : Params) (byte : Byte) (s : State) : State :=
  ({ s with cfg := byte } : State).configSent c byte

/-- The read of the raw sample. -/
def State.sampleSent (c : Params) (s : State) : State :=
  s.spiXfer .rtd [c.rtdAddrRtdMsb &&& 0x7F#8, c.fill, c.fill]

@[simp] theorem State.mirrorSent_now (c : Params) (byte : Byte) (s : State) : (s.mirrorSent c byte).now = s.now :=
  State.spiXfer_now ..

section
variable {s : State} {c : Params} {cfg : Byte} {rx : Word} {flag : Bool}

/-- `CfgWrite` sends the mirror with a strobe. -/
theorem State.cfgWrite_goTo (hparams : s.params = c) (hcfg : s.cfg = cfg) (strobe : Byte) (pos : SeqPos) :
    s.cfgWrite strobe pos = (s.configSent c (cfg ||| strobe)).goTo pos := by
  subst hparams hcfg
  rfl

theorem State.biasOn_cfgWrite (hparams : s.params = c) (hcfg : s.cfg = cfg) (pos : SeqPos) :
    (s.setBias true).cfgWrite 0 pos = (s.mirrorSent c (cfg ||| c.cfgBias)).goTo pos := by
  subst hparams hcfg
  exact State.cfgWrite_zero ..

theorem State.biasOff_cfgWrite (hparams : s.params = c) (hcfg : s.cfg = cfg) (pos : SeqPos) :
    (s.setBias false).cfgWrite 0 pos = (s.mirrorSent c (cfg &&& ~~~c.cfgBias)).goTo pos := by
  subst hparams hcfg
  exact State.cfgWrite_zero ..

/-- The conversion time is chosen by the mirror's filter bit (R72). -/
theorem State.convTime_eq (hparams : s.params = c) (hcfg : s.cfg = cfg) :
    s.convTime = if cfg &&& c.cfgFilter50 = 0#8 then c.tConv60 else c.tConv50 := by
  subst hparams hcfg
  exact s.ite_filter50 ..

/-- A transaction leaves the conversion time (R72). -/
theorem State.spiXfer_convTime (chip : Chip) (mosi : List Byte) (s : State) :
    (s.spiXfer chip mosi).convTime = s.convTime := by
  cases chip <;> rfl

/-- The read of the sample keeps the bytes the chip answers. -/
theorem State.readSample_eq {m0 m1 m2 : Byte} (hparams : s.params = c) (hmiso : s.miso 3 = [m0, m1, m2])
    (label : Nat) (flag : Bool) :
    s.readSample label flag = (s.sampleSent c).goTo (.sent label (rxWord [m0, m1, m2]) flag) := by
  subst hparams
  rw [← hmiso]
  rfl

/-! ### The points of `RTD_READ` (R83) -/

theorem exec_rtdRead_start (hseq : s.seq = .start) (hactive : s.rtdActive = true) :
    exec .rtdRead s = .next ((s.configSent s.params (s.cfg ||| s.params.cfgFclear)).goTo (.sent 1 0 s.bias)) := by
  simp only [exec, execRtdRead, hseq, ifRtdActive, hactive, if_true, State.cfgWrite_goTo rfl rfl]

theorem exec_rtdRead_sent_one_continuous (hcont : s.continuous = true) :
    exec .rtdRead (s.goTo (.sent 1 rx flag)) = .next (s.readSample 4 flag) := if_pos hcont

theorem exec_rtdRead_sent_one_biasOn (hparams : s.params = c) (hcfg : s.cfg = cfg) (hcont : s.continuous = false)
    (hbias : s.bias = true) :
    exec .rtdRead (s.goTo (.sent 1 rx flag)) = .next ((s.configSent c (cfg ||| c.cfgOneshot)).goTo (.sent 3 0 flag)) :=
  (if_neg (ne_true_of_eq_false hcont)).trans ((if_pos hbias).trans
    (congrArg _ (hparams ▸ State.cfgWrite_goTo rfl hcfg ..)))

theorem exec_rtdRead_sent_one_biasOff (hparams : s.params = c) (hcfg : s.cfg = cfg) (hcont : s.continuous = false)
    (hbias : s.bias = false) :
    exec .rtdRead (s.goTo (.sent 1 rx flag)) = .next ((s.mirrorSent c (cfg ||| c.cfgBias)).goTo (.sent 2 0 flag)) :=
  (if_neg (ne_true_of_eq_false hcont)).trans ((if_neg (ne_true_of_eq_false hbias)).trans
    (congrArg _ (State.biasOn_cfgWrite hparams hcfg _)))

theorem exec_rtdRead_sent_two :
    exec .rtdRead (s.goTo (.sent 2 rx flag)) = .next
      ((s.goTo (.sent 2 rx flag)).waitThen 2 s.params.tBias flag
        (s.cfgWrite s.params.cfgOneshot (.sent 3 0 flag))) := rfl

theorem exec_rtdRead_hold_two (t0 : Word) (d : Nat) :
    exec .rtdRead (s.goTo (.hold 2 t0 d flag)) =
      whenElapsed t0 d (s.goTo (.hold 2 t0 d flag)) (s.cfgWrite s.params.cfgOneshot (.sent 3 0 flag)) := rfl

theorem exec_rtdRead_sent_three :
    exec .rtdRead (s.goTo (.sent 3 rx flag)) = .next
      ((s.goTo (.sent 3 rx flag)).waitThen 3 s.convTime flag (s.readSample 4 flag)) := rfl

theorem exec_rtdRead_hold_three (t0 : Word) (d : Nat) :
    exec .rtdRead (s.goTo (.hold 3 t0 d flag)) =
      whenElapsed t0 d (s.goTo (.hold 3 t0 d flag)) (s.readSample 4 flag) := rfl

theorem exec_rtdRead_sent_four_biasOn :
    exec .rtdRead (s.goTo (.sent 4 rx true)) = .next (s.finishWith (rtdCode rx)) := rfl

theorem exec_rtdRead_sent_four_biasOff (hparams : s.params = c) (hcfg : s.cfg = cfg) :
    exec .rtdRead (s.goTo (.sent 4 rx false)) =
      .next ((s.mirrorSent c (cfg &&& ~~~c.cfgBias)).goTo (.sent 5 rx false)) :=
  congrArg Host.Outcome.next (State.biasOff_cfgWrite hparams hcfg _)

theorem exec_rtdRead_sent_five :
    exec .rtdRead (s.goTo (.sent 5 rx flag)) = .next (s.finishWith (rtdCode rx)) := rfl

end

/-! ### From the read of the sample, and from the trigger, to the end -/

/-- The end of `RTD_READ` from the state in which it reads the sample: where bias was off, it is written off again. -/
def State.rtdReadEnd (c : Params) (cfg : Byte) (code : Word) (s : State) : Bool → State
  | true => (s.sampleSent c).finishWith code
  | false => ((s.sampleSent c).mirrorSent c (cfg &&& ~~~c.cfgBias)).finishWith code

/-- The steps of `RTD_READ` behind the read of the sample. -/
def stepsBehindSample : Bool → Nat
  | true => 1
  | false => 2

section
variable {s : State} {c : Params} {cfg : Byte} {rx : Word} {flag : Bool} {m0 m1 m2 : Byte}

theorem rtdRead_of_readSample (hparams : s.params = c) (hcfg : s.cfg = cfg) (hmiso : s.miso 3 = [m0, m1, m2])
    (flag : Bool) :
    engineSteps .rtdRead (stepsBehindSample flag) (s.readSample 4 flag) =
      .next (s.rtdReadEnd c cfg (BitVec.ofNat 32 ((m1 ++ m2).toNat / 2)) flag) := by
  rw [State.readSample_eq hparams hmiso, ← rtdCode_rxWord m0]
  cases flag
  · exact engineSteps_two (exec_rtdRead_sent_four_biasOff hparams hcfg) exec_rtdRead_sent_five
  · exact (engineSteps_one ..).trans exec_rtdRead_sent_four_biasOn

/-- Behind the trigger, a conversion time that is not 0 is held before the sample is read. -/
theorem rtdRead_of_trigger_wait {t0 : Word} {d : Nat} (hparams : s.params = c) (hcfg : s.cfg = cfg)
    (hnow : s.now = t0) (htime : s.convTime = d) (hd : d ≠ 0) :
    ∃ v, exec .rtdRead (s.goTo (.sent 3 rx flag)) = .next v ∧ v = { s with seq := v.seq } ∧ v.seq ≠ .idle ∧
      ∀ n : Word,
        ((n - t0).toNat % 2 ^ c.tw < d → exec .rtdRead { v with now := n } = .next { v with now := n }) ∧
        (d ≤ (n - t0).toNat % 2 ^ c.tw → s.miso 3 = [m0, m1, m2] →
          engineSteps .rtdRead (stepsBehindSample flag + 1) { v with now := n } = .next
            (({ s with now := n } : State).rtdReadEnd c cfg (BitVec.ofNat 32 ((m1 ++ m2).toNat / 2)) flag)) := by
  subst hparams hnow htime
  obtain ⟨v, hv, hframe, hidle, hwait⟩ :=
    exec_wait (exec_rtdRead_sent_three.trans (congrArg _ (State.waitThen_of_ne hd ..)))
      fun n => exec_rtdRead_hold_three ..
  exact ⟨v, hv, hframe, hidle, fun n => ⟨(hwait n).1, fun hle hmiso =>
    (engineSteps_succ ((hwait n).2 hle)).trans
      (rtdRead_of_readSample (s := { s with now := n }) rfl hcfg hmiso flag)⟩⟩

/-- A conversion time of 0 is not held. -/
theorem rtdRead_of_trigger_noWait {t0 : Word} (hparams : s.params = c) (hcfg : s.cfg = cfg) (hnow : s.now = t0)
    (htime : s.convTime = 0) (hmiso : s.miso 3 = [m0, m1, m2]) :
    engineSteps .rtdRead (stepsBehindSample flag + 1) (s.goTo (.sent 3 rx flag)) = .next
      (({ s with now := t0 } : State).rtdReadEnd c cfg (BitVec.ofNat 32 ((m1 ++ m2).toNat / 2)) flag) := by
  subst hnow
  exact (engineSteps_succ (exec_rtdRead_sent_three.trans (congrArg _ (State.waitThen_of_eq_zero htime ..)))).trans
    (rtdRead_of_readSample hparams hcfg hmiso flag)

/-- Behind the bias write, a settling time that is not 0 is held before the trigger. -/
theorem rtdRead_of_bias_wait {t0 : Word} (hparams : s.params = c) (hcfg : s.cfg = cfg) (hnow : s.now = t0)
    (htime : c.tBias ≠ 0) :
    ∃ v, exec .rtdRead (s.goTo (.sent 2 rx flag)) = .next v ∧ v = { s with seq := v.seq } ∧ v.seq ≠ .idle ∧
      ∀ n : Word,
        ((n - t0).toNat % 2 ^ c.tw < c.tBias → exec .rtdRead { v with now := n } = .next { v with now := n }) ∧
        (c.tBias ≤ (n - t0).toNat % 2 ^ c.tw → exec .rtdRead { v with now := n } = .next
          ((({ s with now := n } : State).configSent c (cfg ||| c.cfgOneshot)).goTo (.sent 3 0 flag))) := by
  subst hparams hcfg hnow
  exact exec_wait (exec_rtdRead_sent_two.trans (congrArg _ (State.waitThen_of_ne htime ..)))
    fun n => exec_rtdRead_hold_two ..

/-- A settling time of 0 is not held. -/
theorem rtdRead_of_bias_noWait {t0 : Word} (hparams : s.params = c) (hcfg : s.cfg = cfg) (hnow : s.now = t0)
    (htime : c.tBias = 0) :
    exec .rtdRead (s.goTo (.sent 2 rx flag)) = .next
      ((({ s with now := t0 } : State).configSent c (cfg ||| c.cfgOneshot)).goTo (.sent 3 0 flag)) := by
  subst hparams hcfg hnow
  exact exec_rtdRead_sent_two.trans (congrArg _ (State.waitThen_of_eq_zero htime ..))

end

/-! ### The statements about `RTD_READ` -/

/-- Settles O30: behind the clear strobe the sample is read, and what is left is the end. -/
theorem readContinuousCompletes : Obligations.ReadContinuousCompletes := by
  intro s m0 m1 m2 hseq hactive hcont addr cleared sampled off ended code hmiso
  have hstart := exec_rtdRead_start hseq hactive
  have hrow : engineSteps .rtdRead (stepsBehindSample s.bias + 2) s =
      .next (cleared.rtdReadEnd s.params s.cfg code s.bias) := by
    rw [engineSteps_succ hstart, engineSteps_succ (exec_rtdRead_sent_one_continuous (s := s.configSent ..) hcont)]
    exact rtdRead_of_readSample rfl rfl hmiso s.bias
  refine ⟨⟨_, hstart⟩, fun hbias => ?_, fun hbias => ?_⟩
  · rw [hbias] at hrow
    exact hrow
  · rw [hbias] at hrow
    exact hrow

/-- Settles O31: behind the clear strobe comes the trigger, and what is left is the conversion. -/
theorem readOneShotBiasOnCompletes : Obligations.ReadOneShotBiasOnCompletes := by
  intro s m0 m1 m2 hseq hactive hcont hbias addr triggered d read
  have hstart := exec_rtdRead_start hseq hactive
  have htrigger (k : Nat) : engineSteps .rtdRead (k + 2) s =
      engineSteps .rtdRead k (triggered.goTo (.sent 3 0 true)) := by
    rw [engineSteps_succ hstart,
      engineSteps_succ (exec_rtdRead_sent_one_biasOn (s := s.configSent ..) rfl rfl hcont hbias), hbias]
    rfl
  have hparams : triggered.params = s.params := (State.spiXfer_params ..).trans (State.spiXfer_params ..)
  have hcfg : triggered.cfg = s.cfg := (State.spiXfer_cfg ..).trans (State.spiXfer_cfg ..)
  have hnow : triggered.now = s.now := (State.spiXfer_now ..).trans (State.spiXfer_now ..)
  have hconv : triggered.convTime = d := (State.spiXfer_convTime ..).trans (State.spiXfer_convTime ..)
  refine ⟨⟨_, hstart⟩, fun htime => ?_, fun htime hmiso => ?_⟩
  · rw [htrigger 1, engineSteps_one]
    exact rtdRead_of_trigger_wait hparams hcfg hnow hconv htime
  · exact (htrigger 2).trans (rtdRead_of_trigger_noWait (flag := true) hparams hcfg hnow (hconv.trans htime) hmiso)

/-- Settles O32: behind the bias write comes the wait, behind that the trigger, and what is left is the conversion. -/
theorem readOneShotBiasOffCompletes : Obligations.ReadOneShotBiasOffCompletes := by
  intro s m0 m1 m2 hseq hactive hcont hbias addr on off biased triggered d read rest
  have hstart := exec_rtdRead_start hseq hactive
  have hbiased : engineSteps .rtdRead 3 s = exec .rtdRead (biased.goTo (.sent 2 0 false)) := by
    rw [engineSteps_succ hstart,
      engineSteps_succ (exec_rtdRead_sent_one_biasOff (s := s.configSent ..) rfl rfl hcont hbias), hbias,
      engineSteps_one]
    rfl
  have hparams : biased.params = s.params :=
    (State.spiXfer_params ..).trans (s.spiXfer_params .rtd [addr, s.cfg ||| s.params.cfgFclear])
  have hcfg : biased.cfg = on := State.spiXfer_cfg ..
  have hnow : biased.now = s.now :=
    (State.spiXfer_now ..).trans (s.spiXfer_now .rtd [addr, s.cfg ||| s.params.cfgFclear])
  have hrest (n : Word) : rest n ((triggered n).goTo (.sent 3 0 false)) := by
    have hparams' : (triggered n).params = s.params := (State.spiXfer_params ..).trans hparams
    have hcfg' : (triggered n).cfg = on := (State.spiXfer_cfg ..).trans hcfg
    have hnow' : (triggered n).now = n := State.spiXfer_now ..
    have hconv : (triggered n).convTime = d := State.convTime_eq hparams' hcfg'
    exact ⟨rfl, nofun, rtdRead_of_trigger_wait hparams' hcfg' hnow' hconv,
      fun htime hmiso => rtdRead_of_trigger_noWait (flag := false) hparams' hcfg' hnow' (hconv.trans htime) hmiso⟩
  rw [hbiased]
  refine ⟨⟨_, hstart⟩, fun htime => ?_, fun htime => ?_⟩
  · obtain ⟨v, hv, hframe, hidle, hwait⟩ := rtdRead_of_bias_wait hparams hcfg hnow htime
    exact ⟨v, hv, hframe, hidle, fun n => ⟨(hwait n).1, fun hle => ⟨_, (hwait n).2 hle, hrest n⟩⟩⟩
  · exact ⟨_, rtdRead_of_bias_noWait hparams hcfg hnow htime, hrest s.now⟩

end Sys2Proof.Machine
end

section
open Sys2Proof Sys2Proof.Machine
namespace Sys2Proof.Machine

/-! ### The points of `RTD_READ_ASYNC` (R84) -/

section
variable {s : State} {c : Params} {cfg : Byte} {rx : Word} {flag : Bool}

theorem exec_rtdReadAsync_start_idle (hseq : s.seq = .start) (hactive : s.rtdActive = true)
    (hphase : s.rtdState = .idle) :
    exec .rtdReadAsync s = .next
      ((s.configSent s.params (s.cfg ||| s.params.cfgFclear)).goTo (.sent 1 0 false)) := by
  simp only [exec, execRtdReadAsync, hseq, hactive, if_true, hphase, State.cfgWrite_goTo rfl rfl]

theorem exec_rtdReadAsync_start_settling (hseq : s.seq = .start) (hactive : s.rtdActive = true)
    (hphase : s.rtdState = .settling) :
    exec .rtdReadAsync s = .next
      (if s.params.tBias ≤ s.elapsed s.rtdTs then
        (s.configSent s.params (s.cfg ||| s.params.cfgOneshot)).goTo (.sent 3 0 false)
      else s.finish false) := by
  simp only [exec, execRtdReadAsync, hseq, hactive, if_true, hphase, State.cfgWrite_goTo rfl rfl]
  split <;> rfl

theorem exec_rtdReadAsync_start_converting (hseq : s.seq = .start) (hactive : s.rtdActive = true)
    (hphase : s.rtdState = .converting) :
    exec .rtdReadAsync s = .next
      (if s.convTime ≤ s.elapsed s.rtdTs then s.readSample 4 false else s.finish false) := by
  simp only [exec, execRtdReadAsync, hseq, hactive, if_true, hphase]
  split <;> rfl

theorem exec_rtdReadAsync_sent_one_biasOn (hbias : s.bias = true) :
    exec .rtdReadAsync (s.goTo (.sent 1 rx flag)) = .next
      { s with
        rtdAsyncBiasWasOn := true, rtdTs := s.now, rtdState := .settling
        seq := .idle, status := s.status.finish false } := if_pos hbias

theorem exec_rtdReadAsync_sent_one_biasOff (hparams : s.params = c) (hcfg : s.cfg = cfg) (hbias : s.bias = false) :
    exec .rtdReadAsync (s.goTo (.sent 1 rx flag)) = .next
      ((({ s with rtdAsyncBiasWasOn := false } : State).mirrorSent c (cfg ||| c.cfgBias)).goTo (.sent 2 0 false)) :=
  (if_neg (ne_true_of_eq_false hbias)).trans
    (congrArg _ (State.biasOn_cfgWrite (s := { s with rtdAsyncBiasWasOn := false }) hparams hcfg _))

theorem exec_rtdReadAsync_sent_two {t0 : Word} (hnow : s.now = t0) :
    exec .rtdReadAsync (s.goTo (.sent 2 rx flag)) = .next
      (({ s with rtdTs := t0, rtdState := .settling } : State).finish false) := by
  subst hnow
  rfl

theorem exec_rtdReadAsync_sent_three :
    exec .rtdReadAsync (s.goTo (.sent 3 rx flag)) = .next (s.rtdConvert.finish false) := rfl

theorem exec_rtdReadAsync_sent_four_keep (hkeep : s.params.asyncRestoreBias = false ∨ s.rtdAsyncBiasWasOn = true) :
    exec .rtdReadAsync (s.goTo (.sent 4 rx flag)) = .next (s.rtdDeliver rx) := by
  have hcond : (s.params.asyncRestoreBias && !s.rtdAsyncBiasWasOn) = false := by
    rcases hkeep with h | h <;> simp [h]
  exact if_neg (ne_true_of_eq_false hcond)

theorem exec_rtdReadAsync_sent_four_restore (hparams : s.params = c) (hcfg : s.cfg = cfg)
    (hrestore : c.asyncRestoreBias = true) (hwas : s.rtdAsyncBiasWasOn = false) :
    exec .rtdReadAsync (s.goTo (.sent 4 rx flag)) = .next
      ((s.mirrorSent c (cfg &&& ~~~c.cfgBias)).goTo (.sent 5 rx false)) := by
  have hcond : (s.params.asyncRestoreBias && !s.rtdAsyncBiasWasOn) = true := by simp [hparams, hrestore, hwas]
  exact (if_pos hcond).trans (congrArg _ (State.biasOff_cfgWrite hparams hcfg _))

theorem exec_rtdReadAsync_sent_five :
    exec .rtdReadAsync (s.goTo (.sent 5 rx flag)) = .next (s.rtdDeliver rx) := rfl

end

/-- Settles O33, phase by phase. -/
theorem readAsyncPhases : Obligations.ReadAsyncPhases := by
  intro s m0 m1 m2 hseq hactive ended addr on off cleared sampled conv since
  refine ⟨fun hphase hbias => ?_, fun hphase hbias => ?_, fun hphase hlt => ?_, fun hphase hle => ?_,
    fun hphase hlt => ?_, fun hphase hle hmiso => ?_⟩
  · exact engineSteps_two (exec_rtdReadAsync_start_idle hseq hactive hphase)
      (exec_rtdReadAsync_sent_one_biasOn (s := cleared) hbias)
  · exact (engineSteps_succ (exec_rtdReadAsync_start_idle hseq hactive hphase)).trans
      (engineSteps_two (exec_rtdReadAsync_sent_one_biasOff (s := cleared) (c := s.params) (cfg := s.cfg) rfl rfl hbias)
        (exec_rtdReadAsync_sent_two (t0 := s.now)
          ((State.mirrorSent_now ..).trans (s.spiXfer_now .rtd [addr, s.cfg ||| s.params.cfgFclear]))))
  · exact (exec_rtdReadAsync_start_settling hseq hactive hphase).trans (congrArg _ (if_neg (Nat.not_le.mpr hlt)))
  · exact engineSteps_two
      ((exec_rtdReadAsync_start_settling hseq hactive hphase).trans (congrArg _ (if_pos hle)))
      exec_rtdReadAsync_sent_three
  · exact (exec_rtdReadAsync_start_converting hseq hactive hphase).trans (congrArg _ (if_neg (Nat.not_le.mpr hlt)))
  · have hread : exec .rtdReadAsync s = .next (sampled.goTo (.sent 4 (rxWord [m0, m1, m2]) false)) :=
      (exec_rtdReadAsync_start_converting hseq hactive hphase).trans
        (congrArg _ ((if_pos hle).trans (State.readSample_eq rfl hmiso ..)))
    rw [← rtdCode_rxWord m0]
    exact ⟨_, hread, exec_rtdReadAsync_sent_four_keep (s := sampled), fun hrestore hwas => engineSteps_two
      (exec_rtdReadAsync_sent_four_restore (s := sampled) (c := s.params) (cfg := s.cfg) rfl rfl hrestore hwas)
      exec_rtdReadAsync_sent_five⟩

end Sys2Proof.Machine
end

section
open Sys2Proof Sys2Proof.Machine
namespace Sys2Proof

/-! ### Exact results (00_scope.md R11): a value of at most 24 bits over a last place in range is not rounded -/

/-- Signed integers multiply as their signs and magnitudes do. -/
theorem Fp.signed_mul_signed (a b : Bool) (m n i j : Nat) :
    Fp.signed a m i * Fp.signed b n j = Fp.signed (a ^^ b) (m * n) (i + j) := by
  cases a <;> cases b <;> simp [Fp.signed] <;> ring

theorem Fp.signed_add_exponent (neg : Bool) (m i j : Nat) :
    Fp.signed neg m (i + j) = Fp.signed neg m i * 2 ^ j := by
  cases neg <;> simp [Fp.signed] <;> ring

theorem Fp.signed_natAbs (n : Int) (j : Nat) : Fp.signed (decide (n < 0)) n.natAbs j = n * 2 ^ j := by
  obtain h | h := lt_or_ge n 0
  · simp [Fp.signed, h, abs_of_neg]
  · simp [Fp.signed, h, not_lt.mpr h, abs_of_nonneg]

/-- A value of at most 24 bits times `2^j` lies on the grid of every last place, or below all values with it. -/
theorem Fp.significand_grid {c : Int} (hc : c.natAbs < 2 ^ 24) (j Q : Nat) :
    (2 ^ Q : Int) ∣ c * 2 ^ j ∨ (c * 2 ^ j).natAbs < 2 ^ 23 * 2 ^ Q := by
  obtain hlt | hle := Nat.lt_or_ge j Q
  · right
    calc (c * 2 ^ j).natAbs = c.natAbs * 2 ^ j := by simp [Int.natAbs_mul, Int.natAbs_pow]
      _ < 2 ^ 24 * 2 ^ j := Nat.mul_lt_mul_of_pos_right hc (Nat.two_pow_pos j)
      _ = 2 ^ 23 * 2 ^ (j + 1) := by ring
      _ ≤ 2 ^ 23 * 2 ^ Q := Nat.mul_le_mul_left _ (Nat.pow_le_pow_right (by decide) hlt)
  · exact .inl (Dvd.dvd.mul_left (pow_dvd_pow 2 hle) c)

/-- The exact value, in units of `2^(-149-k)`, is on the grid, so that rounding keeps it. -/
theorem Fp.scaled_round_of_exact {neg : Bool} {m k j : Nat} {e c : Int} (hk : 0 ≤ e + 149 + k)
    (hc : c.natAbs < 2 ^ 24) (hj : j ≤ 252)
    (hexact : Fp.signed neg m (e + 149 + k).toNat = c * 2 ^ (j + k)) :
    (Fp.round neg m e).scaled = some (c * 2 ^ j) := by
  have hM : m * 2 ^ (e + 149 + k).toNat = c.natAbs * 2 ^ (j + k) := by
    rw [← Fp.natAbs_signed neg, hexact, Int.natAbs_mul, Int.natAbs_pow]
    rfl
  have hfin : m * 2 ^ (e + 149 + k).toNat < (2 ^ 25 - 1) * 2 ^ (252 + k) := by
    rw [hM]
    exact Nat.mul_lt_mul_of_lt_of_le (by omega) (Nat.pow_le_pow_right (by decide) (by omega)) (Nat.two_pow_pos _)
  obtain ⟨Q, n, hrounds, -, hscaled⟩ := Fp.round_finite neg hk hfin
  have hdist := (hrounds.dist_le (Fp.significand_grid (c := c.natAbs) ((Int.natAbs_natCast _).trans_lt hc) j Q)).1
  have hsame : n * 2 ^ (Q + k) = m * 2 ^ (e + 149 + k).toNat := by
    rw [hM] at hdist ⊢
    have hzero : (c.natAbs : Int) * 2 ^ j * 2 ^ k - ((c.natAbs * 2 ^ (j + k) : Nat) : Int) = 0 := by
      push_cast; ring
    rw [hzero] at hdist
    omega
  have hvalue : Fp.signed neg n Q * 2 ^ k = c * 2 ^ j * 2 ^ k := by
    rw [← Fp.signed_add_exponent, mul_assoc, ← pow_add, ← hexact, Fp.signed_eq_mul, Fp.signed_eq_mul, hsame]
  rw [hscaled, mul_right_cancel₀ (by positivity) hvalue]

/-- A finite pattern is read as a sign, a significand and an exponent. -/
theorem Fp.exists_unpack_of_scaled {x : Fp} {a : Int} (h : x.scaled = some a) :
    ∃ neg m e, x.unpack = .fin neg m e ∧ 0 ≤ e + 149 ∧ a = Fp.signed neg m (e + 149).toNat := by
  unfold Fp.scaled at h
  split at h
  · cases h
  · cases h
  · next neg m e hunpack => exact ⟨neg, m, e, hunpack, (Fp.unpack_fin hunpack).2.1, (Option.some.inj h).symm⟩

/-- An integer of at most 24 bits is converted exactly (45_decode_pipeline.md R119). -/
theorem Fp.scaled_ofInt {n : Int} (hn : n.natAbs < 2 ^ 24) : (Fp.ofInt n).scaled = some (n * 2 ^ 149) :=
  Fp.scaled_round_of_exact (k := 0) (by decide) hn (by decide) (Fp.signed_natAbs n 149)

/-- A product that a pattern can hold is exact. -/
theorem Fp.scaled_mul_of_exact {x y : Fp} {a b c : Int} {j : Nat} (hx : x.scaled = some a) (hy : y.scaled = some b)
    (hc : c.natAbs < 2 ^ 24) (hj : j ≤ 252) (hexact : a * b = c * 2 ^ (j + 149)) :
    (Fp.mul x y).scaled = some (c * 2 ^ j) := by
  obtain ⟨negx, m, e, hux, he, rfl⟩ := Fp.exists_unpack_of_scaled hx
  obtain ⟨negy, n, f, huy, hf, rfl⟩ := Fp.exists_unpack_of_scaled hy
  have hmul : Fp.mul x y = Fp.round (negx ^^ negy) (m * n) (e + f) := by simp only [Fp.mul, hux, huy]
  have hplace : (e + f + 149 + (149 : Nat)).toNat = (e + 149).toNat + (f + 149).toNat := by omega
  rw [hmul]
  refine Fp.scaled_round_of_exact (k := 149) (by omega) hc hj ?_
  rw [hplace, ← Fp.signed_mul_signed, hexact]

/-- A NaN in a register is read as the one NaN. -/
theorem Fp.ofBits_eq (w : Word) : Fp.ofBits w = if 0x7F800000 < w.toNat % 2 ^ 31 then 0x7FC00000#32 else w :=
  if_congr decide_eq_true_iff rfl rfl

end Sys2Proof
end

section
open Sys2Proof Sys2Proof.Machine
namespace Sys2Proof.Machine

/-! ### The decode functions (42_tc_engine.md R87, R88) -/

/-- A code of at most 24 bits times an LSB of `2^i` is exact. -/
theorem scaled_code_mul_lsb {w i : Nat} (code : BitVec w) {lsb : Fp} (hw : w ≤ 24) (hi : i ≤ 252)
    (hlsb : lsb.scaled = some (2 ^ i)) :
    (Fp.mul (Fp.ofInt code.toInt) lsb).scaled = some (code.toInt * 2 ^ i) := by
  have hcode : code.toInt.natAbs < 2 ^ 24 := by
    have hbound : 2 ^ w ≤ 2 ^ 24 := Nat.pow_le_pow_right (by decide) hw
    have hlt := code.isLt
    rw [BitVec.toInt_eq_toNat_cond]
    split <;> omega
  exact Fp.scaled_mul_of_exact (Fp.scaled_ofInt hcode) hlsb hcode hi (by ring)

/-- Settles O36: both LSBs are powers of two. -/
theorem decodeProductsExact : Obligations.DecodeProductsExact := by
  intro c raw
  refine ⟨fun hlsb => ?_, fun hlsb => ?_⟩
  · exact scaled_code_mul_lsb (raw.extractLsb' 18 14) (by decide) (by decide) (by rw [hlsb]; decide)
  · exact scaled_code_mul_lsb (raw.extractLsb' 4 12) (by decide) (by decide) (by rw [hlsb]; decide)

/-! ### The points of the TC commands (R93 to R100) -/

section
variable {s : State} {raw : Word} {flag : Bool}

theorem exec_tcSetType_start (hseq : s.seq = .start) (p : ProbeType) :
    exec (.tcSetType (.known p)) s = .next (({ s with tcProbe := p } : State).finish true) := by
  simp only [exec, execTcSetType, hseq]

theorem exec_tcSetFaultMask_start (hseq : s.seq = .start) (mask : BitVec 4) :
    exec (.tcSetFaultMask mask) s = .next (({ s with tcMask := mask } : State).finish true) := by
  simp only [exec, execTcSetFaultMask, hseq]

theorem exec_tcGetLastFault_start (hseq : s.seq = .start) :
    exec .tcGetLastFault s =
      .next (({ s with tcLastFault := 0#4 } : State).finishWith (s.tcLastFault.setWidth 32)) := by
  simp only [exec, execTcGetLastFault, hseq]

theorem exec_tcSetCjOffset_start (hseq : s.seq = .start) :
    exec .tcSetCjOffset s = .next (({ s with tcOffset := Fp.ofBits s.latch.arg0 } : State).finish true) := by
  simp only [exec, execTcSetCjOffset, hseq]

theorem exec_tcDecHot_start (hseq : s.seq = .start) :
    exec .tcDecHot s = .next (s.finishWith (s.params.decHot s.latch.arg0)) := by
  simp only [exec, execTcDecHot, hseq]

theorem exec_tcDecCold_start (hseq : s.seq = .start) :
    exec .tcDecCold s = .next (s.finishWith (s.params.decCold s.tcOffset s.latch.arg0)) := by
  simp only [exec, execTcDecCold, hseq]

/-- Both readings begin with the same transaction. -/
theorem exec_tcReadVolt_start (hseq : s.seq = .start) (hactive : s.tcActive = true) :
    exec .tcReadVolt s = .next (s.recv .tc s.params.readSensorMosi 1 false) := by
  simp only [exec, execTcReadVolt, hseq, hactive, if_true]

theorem exec_tcReadTemp_start (hseq : s.seq = .start) (hactive : s.tcActive = true) :
    exec .tcReadTemp s = .next (s.recv .tc s.params.readSensorMosi 1 false) := by
  simp only [exec, execTcReadTemp, hseq, hactive, if_true]

theorem exec_tcReadVolt_sent (hseq : s.seq = .sent 1 raw flag) :
    exec .tcReadVolt s = .next (s.tcReading raw (s.tcVolt raw)) := by
  simp only [exec, execTcReadVolt, hseq]

theorem exec_tcReadTemp_sent (hseq : s.seq = .sent 1 raw flag) :
    exec .tcReadTemp s = .next (s.tcReading raw (s.tcTemp raw)) := by
  simp only [exec, execTcReadTemp, hseq]

end

/-! ### The commands without a transaction -/

/-- Settles O34: each command is its one write and an end. -/
theorem tcSettersComplete : Obligations.TcSettersComplete := by
  intro s p mask hseq ended
  refine ⟨exec_tcSetType_start hseq p, exec_tcSetFaultMask_start hseq mask, exec_tcGetLastFault_start hseq, ?_⟩
  rw [← Fp.ofBits_eq]
  exact exec_tcSetCjOffset_start hseq

/-- Settles O35: each command ends with the value of its decode function. -/
theorem tcDecodeCommands : Obligations.TcDecodeCommands :=
  fun _ hseq => ⟨exec_tcDecHot_start hseq, exec_tcDecCold_start hseq⟩

/-! ### The readings (R89 to R91, R99, R100) -/

/-- The sensor read leaves the chip's four bytes as the raw word (40_bus_transport.md R62). -/
theorem State.recv_sensor {s : State} {m0 m1 m2 m3 : Byte} (hmiso : s.miso 4 = [m0, m1, m2, m3]) (label : Nat)
    (flag : Bool) :
    s.recv .tc s.params.readSensorMosi label flag =
      s.send .tc s.params.readSensorMosi (.sent label (m0 ++ m1 ++ m2 ++ m3) flag) := by
  have hlength : s.params.readSensorMosi.length = 4 := rfl
  rw [State.recv_eq, hlength, hmiso, rxWord_four]

section
variable {s : State} {mosi : List Byte} {pos : SeqPos} {raw : Word} {value : Option Fp}

/-- The transaction of a reading leaves what its value is made of. -/
@[simp] theorem State.send_tcVolt : (s.send .tc mosi pos).tcVolt raw = s.tcVolt raw := by
  simp only [State.tcVolt, State.send_params, State.send_tcProbe, State.send_tcOffset]

@[simp] theorem State.send_tcTemp : (s.send .tc mosi pos).tcTemp raw = s.tcTemp raw := by
  simp only [State.tcTemp, State.send_tcVolt, State.send_params, State.send_tcProbe]

/-- Behind the transaction, a masked fault is latched and makes the result NaN. -/
theorem State.send_tcReading_fault (hfault : s.maskedFault raw ≠ 0#4) :
    (s.send .tc mosi pos).tcReading raw value =
      { s.spiXfer .tc mosi with
        tcLastFault := s.maskedFault raw, result := Fp.nan
        seq := .idle, status := { s.status with busy := false, done := true, ok := true } } := if_pos hfault

/-- Without one, the result is the value, and NaN where there is none. -/
theorem State.send_tcReading_noFault (hfault : s.maskedFault raw = 0#4) :
    (s.send .tc mosi pos).tcReading raw value =
      { s.spiXfer .tc mosi with
        result := value.getD Fp.nan
        seq := .idle, status := { s.status with busy := false, done := true, ok := true } } := by
  have hmask : (s.send .tc mosi pos).maskedFault raw = 0#4 := hfault
  obtain ⟨hne, -⟩ | ⟨-, rfl, hreading⟩ | ⟨v, -, rfl, hreading⟩ := (s.send .tc mosi pos).tcReading_cases raw value
  · exact absurd hmask hne
  · exact hreading.trans (State.send_finishWith ..)
  · exact hreading.trans (State.send_finishWith ..)

/-- A probe of no TC type has no tables (R90). -/
theorem State.tcVolt_tcTemp_of_notTc (hprobe : s.tcProbe = .none ∨ s.tcProbe = .rtd2W ∨ s.tcProbe = .rtd3W) :
    s.tcVolt raw = none ∧ s.tcTemp raw = none := by
  rcases hprobe with h | h | h <;> simp [State.tcVolt, State.tcTemp, h, Params.fwdTable, Params.invTable]

/-- A probe of a TC type has both. -/
theorem Params.tables_of_tc {c : Params} {p : ProbeType} {fwd inv : List Segment}
    (hprobe : (p = .tcK ∧ fwd = c.fwdK ∧ inv = c.invK) ∨ (p = .tcJ ∧ fwd = c.fwdJ ∧ inv = c.invJ) ∨
      (p = .tcT ∧ fwd = c.fwdT ∧ inv = c.invT)) : c.fwdTable p = some fwd ∧ c.invTable p = some inv := by
  rcases hprobe with ⟨rfl, rfl, rfl⟩ | ⟨rfl, rfl, rfl⟩ | ⟨rfl, rfl, rfl⟩ <;> exact ⟨rfl, rfl⟩

/-- With its tables, a probe's values are the voltage and the inverse table's value of it. -/
theorem State.tcVolt_tcTemp_of_tables {fwd inv : List Segment} (hfwd : s.params.fwdTable s.tcProbe = some fwd)
    (hinv : s.params.invTable s.tcProbe = some inv) :
    s.tcVolt raw = some (s.params.voltage s.tcProbe fwd s.tcOffset raw) ∧
      s.tcTemp raw = some (polyEval inv (s.params.voltage s.tcProbe fwd s.tcOffset raw)) := by
  simp [State.tcVolt, State.tcTemp, hfwd, hinv]

end

/-- The voltage is the chip's part and the forward table's, and for `TC_K` above zero the correction besides (R91). -/
theorem Params.voltage_eq (c : Params) (p : ProbeType) (fwd : List Segment) (offset : Fp) (raw : Word) :
    c.voltage p fwd offset raw =
      let cold := c.decCold offset raw
      let chip := Fp.mul (Fp.sub (c.decHot raw) (Fp.add cold offset)) c.tcSeebeck
      let plain := Fp.add chip (polyEval fwd cold)
      if p = .tcK ∧ Fp.gt cold 0x00000000#32 = true then Fp.add plain (c.kCorrection cold) else plain := by
  have hzero : Fp.zero false = 0x00000000#32 := by decide
  simp only [Params.voltage, hzero, Bool.and_eq_true, decide_eq_true_eq]

/-- Settles O37: both readings make the transaction and end as `tcReading` does, on the voltage or on its
temperature. -/
theorem tcReadingsComplete : Obligations.TcReadingsComplete := by
  intro s m0 m1 m2 m3 hseq hactive hmiso raw sent ended f
  let u : State := s.send .tc s.params.readSensorMosi (.sent 1 raw false)
  have hrecv : s.recv .tc s.params.readSensorMosi 1 false = u := State.recv_sensor hmiso 1 false
  have hvolt : exec .tcReadVolt u = .next (u.tcReading raw (s.tcVolt raw)) :=
    (exec_tcReadVolt_sent (State.send_seq ..)).trans (by rw [State.send_tcVolt])
  have htemp : exec .tcReadTemp u = .next (u.tcReading raw (s.tcTemp raw)) :=
    (exec_tcReadTemp_sent (State.send_seq ..)).trans (by rw [State.send_tcTemp])
  refine ⟨u, u, hrecv ▸ exec_tcReadVolt_start hseq hactive, hrecv ▸ exec_tcReadTemp_start hseq hactive,
    fun hfault => ?_, fun hfault hprobe => ?_, fun fwd inv hfault hprobe => ?_⟩
  · rw [hvolt, htemp]
    exact ⟨congrArg _ (State.send_tcReading_fault hfault), congrArg _ (State.send_tcReading_fault hfault)⟩
  · obtain ⟨hnoVolt, hnoTemp⟩ := State.tcVolt_tcTemp_of_notTc (raw := raw) hprobe
    rw [hvolt, htemp, hnoVolt, hnoTemp]
    exact ⟨congrArg _ (State.send_tcReading_noFault hfault), congrArg _ (State.send_tcReading_noFault hfault)⟩
  · obtain ⟨hfwd, hinv⟩ := Params.tables_of_tc hprobe
    obtain ⟨hsomeVolt, hsomeTemp⟩ := State.tcVolt_tcTemp_of_tables (raw := raw) hfwd hinv
    rw [hvolt, htemp, hsomeVolt, hsomeTemp, Params.voltage_eq]
    exact ⟨congrArg _ (State.send_tcReading_noFault hfault), congrArg _ (State.send_tcReading_noFault hfault)⟩

end Sys2Proof.Machine
end

section
open Sys2Proof Sys2Proof.Machine
namespace Sys2Proof.Machine

/-! ### The driven lines (43_channel_mux.md R102, R103, R106) -/

theorem State.selectLines_switch_of_ne {s : State} {ch : Channel} {rev : Bool} (h : oneHot (physOf ch rev) ≠ s.sel) :
    (s.selectLines ch rev).muxTs = s.now ∧ (s.selectLines ch rev).muxState = .switching := by
  rw [State.selectLines_eq]
  exact ⟨if_neg h, if_neg h⟩

theorem State.selectLines_switch_of_eq {s : State} {ch : Channel} {rev : Bool} (h : oneHot (physOf ch rev) = s.sel) :
    (s.selectLines ch rev).muxTs = s.muxTs ∧ (s.selectLines ch rev).muxState = s.muxState := by
  rw [State.selectLines_eq]
  exact ⟨if_pos h, if_pos h⟩

@[simp] theorem State.elapsed_now (s : State) : s.elapsed s.now = 0 := by simp [State.elapsed]

theorem State.pinSel_selectLines {s : State} (hout : s.outCfg = true) (ch : Channel) (rev : Bool) :
    (s.selectLines ch rev).pinSel = oneHot (physOf ch rev) := if_pos hout

/-- Settles O38: with the outputs configured the pins are the one-hot line. -/
theorem oneLineHigh : Obligations.OneLineHigh := by
  intro s ch hout
  rw [State.pinSel_selectLines hout, State.pinSel_selectLines hout]
  cases ch <;> exact ⟨rfl, rfl⟩

/-! ### The set-up of a selection (R106)

`SetUp` says field by field what the set-up leaves; `State.driven` is the state it leaves. -/

/-- The set-up's write for an RTD probe that is new (41_rtd_engine.md R74). -/
def State.reprogramRtd (p : ProbeType) (s : State) : State :=
  ((s.setRoute .rtd).rtdType p).cfgWrite 0 (.sent 1 0 s.reverse)

/-- The set-up before the lines are driven, its write made. -/
def State.prepared (ch : Channel) (p : ProbeType) (fam : Family) (s : State) : State :=
  if s.reprograms ch p then
    match fam with
    | .tc => ({ s.setRoute .tc with tcProbe := p } : State).cacheProbe ch p
    | .rtd => (s.reprogramRtd p).cacheProbe ch p
  else s.setRoute fam

/-- The set-up with the lines driven. -/
def State.driven (ch : Channel) (p : ProbeType) (fam : Family) (s : State) : State :=
  (s.prepared ch p fam).selectLines ch s.reverse

section
variable {ch : Channel} {p : ProbeType} {fam : Family} {s u : State}

theorem State.reprograms_iff : s.reprograms ch p = true ↔ s.curChannel ≠ some ch ∨ s.cache.get ch ≠ p := by
  simp [State.reprograms]

theorem State.reprograms_eq_false_iff : s.reprograms ch p = false ↔ s.curChannel = some ch ∧ s.cache.get ch = p := by
  simp [State.reprograms]

theorem State.setUpSteps_tc : s.setUpSteps ch p .tc = 1 := by simp [State.setUpSteps]

theorem State.setUpSteps_rtd : s.setUpSteps ch p .rtd = if s.reprograms ch p then 2 else 1 := by
  simp [State.setUpSteps]

theorem State.setUpSteps_eq (s : State) (ch : Channel) (p : ProbeType) (fam : Family) :
    s.setUpSteps ch p fam = if fam = .rtd ∧ (s.curChannel ≠ some ch ∨ s.cache.get ch ≠ p) then 2 else 1 :=
  if_congr (by rw [← State.reprograms_iff, Bool.and_eq_true, decide_eq_true_eq, and_comm]) rfl rfl

/-- The route, the wire bit with its probe, and one write of the mirror. -/
theorem State.reprogramRtd_eq (p : ProbeType) (s : State) :
    s.reprogramRtd p =
      let cfg := if p = .rtd3W then s.cfg ||| s.params.cfgWire3 else s.cfg &&& ~~~s.params.cfgWire3
      (({ s with
          route := s.params.routeRtdLevel, cfg := cfg, rtdProbe := p
          trace := s.trace ++ [.pin .route (levelOf (s.outCfg && s.params.routeRtdLevel))] } : State).spiXfer .rtd
        [s.params.rtdAddrConfig ||| 0x80#8, cfg]).goTo (.sent 1 0 s.reverse) := by
  rw [State.reprogramRtd, State.rtdType_eq, State.cfgWrite_zero]
  rfl

theorem State.reprogramRtd_cfg (p : ProbeType) (s : State) :
    (s.reprogramRtd p).cfg = if p = .rtd3W then s.cfg ||| s.params.cfgWire3 else s.cfg &&& ~~~s.params.cfgWire3 := by
  rw [State.reprogramRtd_eq]
  rfl

theorem State.reprogramRtd_trace (p : ProbeType) (s : State) :
    (s.reprogramRtd p).trace =
      s.trace ++ (.pin .route (levelOf (s.outCfg && s.params.routeRtdLevel)) ::
        s.params.spiEvents .rtd [s.params.rtdAddrConfig ||| 0x80#8, (s.reprogramRtd p).cfg] (s.miso 2)) := by
  rw [State.reprogramRtd_eq]
  exact List.append_assoc ..

theorem State.prepared_of_cached (h : s.reprograms ch p = false) : s.prepared ch p fam = s.setRoute fam := by
  simp [State.prepared, h]

theorem State.prepared_tc (h : s.reprograms ch p = true) :
    s.prepared ch p .tc = ({ s.setRoute .tc with tcProbe := p } : State).cacheProbe ch p := if_pos h

theorem State.prepared_rtd (h : s.reprograms ch p = true) :
    s.prepared ch p .rtd = (s.reprogramRtd p).cacheProbe ch p := if_pos h

theorem Cache.get_set_self (c : Cache) (ch : Channel) (p : ProbeType) : (c.set ch p).get ch = p := by
  cases ch <;> rfl

theorem Cache.get_set_of_ne (c : Cache) {ch ch' : Channel} (p : ProbeType) (h : ch' ≠ ch) :
    (c.set ch p).get ch' = c.get ch' := by
  cases ch <;> cases ch' <;> simp_all [Cache.set, Cache.get]

/-- The state that no set-up writes. -/
def State.setUpKept (s : State) :
    (Params × (Word × Word × Word × Word) × Latch × (Word × Bool × Bool) × Option Word × List Turn) ×
      Word × (Bool × Bool × Bool) × (RtdState × Word × Bool) × (BitVec 4 × Fp × BitVec 4) × Level :=
  (s.outside, s.result, (s.tcActive, s.rtdActive, s.outCfg), (s.rtdState, s.rtdTs, s.rtdAsyncBiasWasOn),
    (s.tcMask, s.tcOffset, s.tcLastFault), s.csTc)

/-- The frame of `SetUp`, from what is kept and how many bytes the chip has answered. -/
theorem State.eq_of_setUpKept {n : Nat} (hkept : u.setUpKept = s.setUpKept) (hmiso : u.misoIn = s.misoIn.drop n)
    (hfree : u.freeCount = s.freeCount + n) :
    u = { s with
      route := u.route, curChannel := u.curChannel, cache := u.cache, sel := u.sel, cfg := u.cfg
      rtdProbe := u.rtdProbe, tcProbe := u.tcProbe, csRtd := u.csRtd, sclk := u.sclk, mosi := u.mosi
      misoIn := s.misoIn.drop n, freeCount := s.freeCount + n
      muxState := u.muxState, muxTs := u.muxTs, status := u.status, seq := u.seq, trace := u.trace } := by
  cases u
  simp_all [State.setUpKept, State.outside]

/-- The driven lines are a set-up in each of its three forms. -/
theorem State.setUp_driven (ch : Channel) (p : ProbeType) (fam : Family) (s : State) :
    SetUp ch p fam s (s.driven ch p fam) := by
  unfold SetUp State.driven
  cases hnew : s.reprograms ch p with
  | false =>
    have hcached : s.cache.get ch = p := (State.reprograms_eq_false_iff.mp hnew).2
    rw [State.prepared_of_cached hnew]
    refine ⟨?_, rfl, hcached, fun _ _ => rfl, rfl, rfl, rfl, rfl, rfl, fun _ => ⟨rfl, rfl⟩,
      ⟨_, List.append_assoc .., rfl⟩, State.eq_of_setUpKept rfl rfl rfl⟩
    cases fam <;> rfl
  | true =>
    have hself := s.cache.get_set_self ch p
    have hother (ch' : Channel) (h : ch' ≠ ch) := s.cache.get_set_of_ne p h
    cases fam with
    | tc =>
      rw [State.prepared_tc hnew]
      exact ⟨rfl, rfl, hself, hother, rfl, rfl, rfl, rfl, rfl, fun _ => ⟨rfl, rfl⟩,
        ⟨_, List.append_assoc .., rfl⟩, State.eq_of_setUpKept rfl rfl rfl⟩
    | rtd =>
      rw [State.prepared_rtd hnew]
      simp only [Bool.true_and, decide_true, reduceCtorEq, decide_false, if_true, Bool.false_eq_true, if_false]
      refine ⟨rfl, rfl, hself, hother, rfl, State.reprogramRtd_cfg p s, rfl, ?_, rfl, nofun, ?_,
        State.eq_of_setUpKept ?_ ?_ ?_⟩
      · simp [State.reprogramRtd]
      · rw [← State.reprogramRtd_cfg]
        exact ⟨_, (congrArg (· ++ _) (State.reprogramRtd_trace p s)).trans (List.append_assoc ..), rfl⟩
      · simp [State.reprogramRtd, State.setUpKept, State.outside]
      · simp [State.reprogramRtd]
      · simp [State.reprogramRtd]

end

end Sys2Proof.Machine
end

section
open Sys2Proof Sys2Proof.Machine
namespace Sys2Proof.Machine

section
variable {ch : Channel} {p : ProbeType} {fam : Family} {s u v : State}

/-! ### What a statement reads off a set-up -/

/-- Ending or holding the command leaves the set-up. -/
theorem SetUp.withSwitch (h : SetUp ch p fam s u) (state : MuxState) (pos : SeqPos) (st : Status) :
    SetUp ch p fam s { u with muxState := state, seq := pos, status := st } := by
  obtain ⟨hroute, hcur, hcache, hothers, hsel, hcfg, hrtd, htc, hcs, hbus, htrace, hframe⟩ := h
  refine ⟨hroute, hcur, hcache, hothers, hsel, hcfg, hrtd, htc, hcs, hbus, htrace, ?_⟩
  have hwith := congrArg (fun x : State => { x with muxState := state, seq := pos, status := st }) hframe
  exact hwith

theorem SetUp.route_tc (h : SetUp ch p .tc s u) : u.route = !s.params.routeRtdLevel := h.1

theorem SetUp.route_rtd (h : SetUp ch p .rtd s u) : u.route = s.params.routeRtdLevel := h.1

theorem SetUp.mirror (h : SetUp ch p .rtd s u) (hnew : s.reprograms ch p = true) :
    u.cfg = (if p = .rtd3W then s.cfg ||| s.params.cfgWire3 else s.cfg &&& ~~~s.params.cfgWire3) ∧ u.rtdProbe = p := by
  obtain ⟨-, -, -, -, -, hcfg, hprobe, -⟩ := h
  simpa [hnew] using And.intro hcfg hprobe

theorem SetUp.cached (h : SetUp ch p .rtd s u) (hnew : s.reprograms ch p = false) :
    u.cfg = s.cfg ∧ u.rtdProbe = s.rtdProbe ∧ u.misoIn = s.misoIn := by
  obtain ⟨-, -, -, -, -, hcfg, hprobe, -, -, -, -, hframe⟩ := h
  have hmiso := congrArg State.misoIn hframe
  simpa [hnew] using And.intro hcfg (And.intro hprobe hmiso)

theorem SetUp.tcProbe (h : SetUp ch p .tc s u) : u.tcProbe = if s.reprograms ch p then p else s.tcProbe := by
  obtain ⟨-, -, -, -, -, -, -, htc, -⟩ := h
  simpa using htc

/-- One transaction where an RTD probe is reprogrammed, and none otherwise. -/
theorem SetUp.spiCount (h : SetUp ch p fam s u) :
    spiCount u.trace = spiCount s.trace + if s.reprograms ch p && decide (fam = .rtd) then 1 else 0 := by
  obtain ⟨-, -, -, -, -, -, -, -, -, -, ⟨es, htrace, hspi⟩, -⟩ := h
  rw [htrace, spiCount_append, spiCount_eq_length es, hspi]
  split <;> rfl

/-! ### The switch during a selection -/

/-- `u` has the configuration, the inputs, the status and the switch of `s`. -/
structure SameSwitch (s u : State) : Prop where
  params : u.params = s.params
  now : u.now = s.now
  reverse : u.reverse = s.reverse
  status : u.status = s.status
  sel : u.sel = s.sel
  muxState : u.muxState = s.muxState
  muxTs : u.muxTs = s.muxTs

theorem sameSwitch_prepared (ch : Channel) (p : ProbeType) (fam : Family) (s : State) :
    SameSwitch s (s.prepared ch p fam) := by
  unfold State.prepared
  split
  · cases fam
    · exact ⟨rfl, rfl, rfl, rfl, rfl, rfl, rfl⟩
    · constructor <;> simp [State.reprogramRtd]
  · exact ⟨rfl, rfl, rfl, rfl, rfl, rfl, rfl⟩

/-- `v` is `s` with a select line driven: the time is taken exactly where the lines change (R107, R109). -/
structure Drove (s v : State) : Prop where
  params : v.params = s.params
  status : v.status = s.status
  elapsed : ∀ t0, v.elapsed t0 = s.elapsed t0
  changed : v.sel ≠ s.sel → v.muxTs = s.now ∧ v.muxState = .switching
  kept : v.sel = s.sel → v.muxTs = s.muxTs ∧ v.muxState = s.muxState

theorem SameSwitch.drove (h : SameSwitch s u) (ch : Channel) (rev : Bool) : Drove s (u.selectLines ch rev) where
  params := h.params
  status := h.status
  elapsed t0 := by simp only [State.elapsed, State.selectLines_now, State.selectLines_params, h.now, h.params]
  changed hne := by
    rw [← h.now]
    exact State.selectLines_switch_of_ne (by rwa [h.sel])
  kept heq := by
    rw [← h.muxTs, ← h.muxState]
    exact State.selectLines_switch_of_eq (by rwa [h.sel])

theorem drove_driven (ch : Channel) (p : ProbeType) (fam : Family) (s : State) : Drove s (s.driven ch p fam) :=
  (sameSwitch_prepared ch p fam s).drove ch s.reverse

theorem State.driven_params : (s.driven ch p fam).params = s.params := (drove_driven ch p fam s).params

theorem State.driven_status : (s.driven ch p fam).status = s.status := (drove_driven ch p fam s).status

theorem State.driven_elapsed (t0 : Word) : (s.driven ch p fam).elapsed t0 = s.elapsed t0 :=
  (drove_driven ch p fam s).elapsed t0

theorem State.driven_switch_of_ne (h : oneHot (physOf ch s.reverse) ≠ s.sel) :
    (s.driven ch p fam).muxTs = s.now ∧ (s.driven ch p fam).muxState = .switching :=
  (drove_driven ch p fam s).changed h

theorem State.driven_switch_of_eq (h : s.sel = oneHot (physOf ch s.reverse)) :
    (s.driven ch p fam).muxTs = s.muxTs ∧ (s.driven ch p fam).muxState = s.muxState :=
  (drove_driven ch p fam s).kept h.symm

/-! ### The two select commands

Their bodies differ in their end alone (R109, R110). -/

/-- The select command `i` of a channel and a probe, with the end of its body. -/
inductive SelectCommand (ch : Channel) (p : ProbeType) : Instr → (Family → State → State) → Prop where
  | blocking : SelectCommand ch p (.muxSel (.known ch) (.known p)) State.muxSelEnd
  | async : SelectCommand ch p (.muxSelAsync (.known ch) (.known p)) State.muxSelAsyncEnd

theorem SelectCommand.end_selected {i : Instr} {fin : Family → State → State} (h : SelectCommand ch p i fin)
    (hstate : u.muxState = .selected) : fin fam u = u.finish true := by
  cases h <;> simp only [State.muxSelEnd, State.muxSelAsyncEnd, hstate]

/-- Both ends complete with `OK` and `Selected` if no switch is pending or it has settled. -/
theorem SelectCommand.end_due {i : Instr} {fin : Family → State → State} (h : SelectCommand ch p i fin)
    (hdue : u.muxState = .selected ∨ u.params.settle fam ≤ u.elapsed u.muxTs) :
    fin fam u = ({ u with muxState := .selected } : State).finish true := by
  cases hstate : u.muxState with
  | selected => rw [h.end_selected hstate, ← hstate]
  | switching =>
    have hsettled : u.params.settle fam ≤ u.elapsed u.muxTs := by simpa [hstate] using hdue
    cases h <;> simp only [State.muxSelEnd, State.muxSelAsyncEnd, hstate, if_pos hsettled]

/-- Before the delay has passed, the blocking end holds. -/
theorem State.muxSelEnd_early (hstate : u.muxState = .switching) (hearly : u.elapsed u.muxTs < u.params.settle fam) :
    u.muxSelEnd fam = u.goTo (.hold 2 u.muxTs (u.params.settle fam) false) := by
  simp only [State.muxSelEnd, hstate, if_neg (Nat.not_le.mpr hearly), State.goTo]

/-- Before the delay has passed, the other end completes without `OK`. -/
theorem State.muxSelAsyncEnd_early (hstate : u.muxState = .switching)
    (hearly : u.elapsed u.muxTs < u.params.settle fam) : u.muxSelAsyncEnd fam = u.finish false := by
  simp only [State.muxSelAsyncEnd, hstate, if_neg (Nat.not_le.mpr hearly)]

/-- A switch is due or still early. -/
theorem State.due_or_early (u : State) (fam : Family) :
    (u.muxState = .selected ∨ u.params.settle fam ≤ u.elapsed u.muxTs) ∨
      (u.muxState = .switching ∧ u.elapsed u.muxTs < u.params.settle fam) := by
  cases u.muxState <;> simp [le_or_gt]

/-- Neither end touches what the set-up has left. -/
theorem SelectCommand.setUp_end {i : Instr} {fin : Family → State → State} (h : SelectCommand ch p i fin)
    (hsetup : SetUp ch p fam s u) : SetUp ch p fam s (fin fam u) := by
  obtain hdue | ⟨hstate, hearly⟩ := u.due_or_early fam
  · rw [h.end_due hdue]
    exact hsetup.withSwitch .selected .idle (u.status.finish true)
  · cases h with
    | blocking =>
      rw [State.muxSelEnd_early hstate hearly]
      exact hsetup.withSwitch u.muxState (.hold 2 u.muxTs (u.params.settle fam) false) u.status
    | async =>
      rw [State.muxSelAsyncEnd_early hstate hearly]
      exact hsetup.withSwitch u.muxState .idle (u.status.finish false)

/-! ### The engine steps of a selection -/

/-- What the checks of R108 let through is a selection. -/
theorem State.muxRequest_eq_select (hfam : familyOf p = some fam) (hactive : s.familyActive fam = true)
    (hch : channelCode ch < s.params.nch) : s.muxRequest (.known ch) (.known p) = .select ch p fam := by
  simp [State.muxRequest, hfam, hactive, hch]

theorem State.muxSetup_reprogramRtd (h : s.reprograms ch p = true) :
    s.muxSetup ch p .rtd = (s.reprogramRtd p, true) := if_pos h

theorem State.muxSetup_prepared (h : (s.reprograms ch p && decide (fam = .rtd)) = false) :
    s.muxSetup ch p fam = (s.prepared ch p fam, false) := by
  cases hnew : s.reprograms ch p with
  | false =>
    rw [State.prepared_of_cached hnew]
    exact if_neg (Bool.not_eq_true _ ▸ hnew)
  | true =>
    cases fam with
    | tc =>
      rw [State.prepared_tc hnew]
      exact if_pos hnew
    | rtd => simp [hnew] at h

section
variable {i : Instr} {fin : Family → State → State}

/-- The first step of a selection, as the set-up leaves it. -/
theorem SelectCommand.exec_start (h : SelectCommand ch p i fin) (hseq : s.seq = .start)
    (hreq : s.muxRequest (.known ch) (.known p) = .select ch p fam) :
    exec i s = .next (if (s.muxSetup ch p fam).2 then (s.muxSetup ch p fam).1 else
      fin fam ((s.muxSetup ch p fam).1.selectLines ch (s.muxSetup ch p fam).1.reverse)) := by
  cases h <;> simp only [exec, execMuxSel, execMuxSelAsync, hseq, hreq] <;> split <;> rfl

theorem SelectCommand.exec_start_reprogram (h : SelectCommand ch p i fin) (hseq : s.seq = .start)
    (hreq : s.muxRequest (.known ch) (.known p) = .select ch p .rtd) (hnew : s.reprograms ch p = true) :
    exec i s = .next (s.reprogramRtd p) := by
  rw [h.exec_start hseq hreq, State.muxSetup_reprogramRtd hnew]
  rfl

theorem SelectCommand.exec_start_drive (h : SelectCommand ch p i fin) (hseq : s.seq = .start)
    (hreq : s.muxRequest (.known ch) (.known p) = .select ch p fam)
    (hone : (s.reprograms ch p && decide (fam = .rtd)) = false) :
    exec i s = .next (fin fam (s.driven ch p fam)) := by
  rw [h.exec_start hseq hreq, State.muxSetup_prepared hone, (sameSwitch_prepared ch p fam s).reverse]
  rfl

theorem SelectCommand.exec_sent {rx : Word} {rev : Bool} (h : SelectCommand ch p i fin)
    (hseq : s.seq = .sent 1 rx rev) :
    exec i s = .next (fin .rtd ((s.cacheProbe ch p).selectLines ch rev)) := by
  cases h <;> simp only [exec, execMuxSel, execMuxSelAsync, hseq]

/-- A selection that the checks let through comes to its end with the lines driven, in one step or in two. -/
theorem SelectCommand.engineSteps_driven (h : SelectCommand ch p i fin) (hseq : s.seq = .start)
    (hreq : s.muxRequest (.known ch) (.known p) = .select ch p fam) :
    engineSteps i (s.setUpSteps ch p fam) s = .next (fin fam (s.driven ch p fam)) := by
  cases htwo : s.reprograms ch p && decide (fam = .rtd) with
  | false =>
    have hsteps : s.setUpSteps ch p fam = 1 := by simp [State.setUpSteps, htwo]
    rw [hsteps, engineSteps_one, h.exec_start_drive hseq hreq htwo]
  | true =>
    have hsteps : s.setUpSteps ch p fam = 2 := if_pos htwo
    obtain ⟨hnew, rfl⟩ : s.reprograms ch p = true ∧ fam = .rtd := by simpa using htwo
    rw [hsteps, engineSteps_two (h.exec_start_reprogram hseq hreq hnew) (h.exec_sent (State.send_seq ..)),
      State.driven, State.prepared_rtd hnew]

end
end

end Sys2Proof.Machine
end

section
open Sys2Proof Sys2Proof.Machine
namespace Sys2Proof.Machine

section
variable {ch : Channel} {p : ProbeType} {fam : Family} {s v : State}

/-! ### A selection that holds (R109) -/

/-- `v` is a `MUX_SEL` begun in `s` that waits out a switch pending since `t0`: the set-up is made, and at any time the
next step changes nothing before the delay has passed and ends the command from then on. -/
structure Holding (ch : Channel) (p : ProbeType) (fam : Family) (t0 : Word) (s v : State) : Prop where
  setUp : SetUp ch p fam s v
  muxTs : v.muxTs = t0
  muxState : v.muxState = .switching
  seq : v.seq ≠ .idle
  status : v.status = s.status
  waits : ∀ n : Word,
    ((n - t0).toNat % 2 ^ s.params.tw < s.params.settle fam →
      exec (.muxSel (.known ch) (.known p)) { v with now := n } = .next { v with now := n }) ∧
    (s.params.settle fam ≤ (n - t0).toNat % 2 ^ s.params.tw →
      exec (.muxSel (.known ch) (.known p)) { v with now := n } = .next
        { v with
          now := n, muxState := .selected, seq := .idle
          status := { s.status with busy := false, done := true, ok := true } })

theorem exec_muxSel_hold {d : Nat} {t0 : Word} {flag : Bool} (hseq : s.seq = .hold 2 t0 d flag) (c : Coded Channel)
    (q : Coded ProbeType) :
    exec (.muxSel c q) s = whenElapsed t0 d s (({ s with muxState := .selected } : State).finish true) := by
  simp only [exec, execMuxSel, hseq]

/-- The step of a hold at any time: nothing before its delay has passed, the end from then on. -/
theorem exec_muxSel_hold_at {d : Nat} {t0 : Word} {flag : Bool} (hseq : s.seq = .hold 2 t0 d flag)
    (c : Coded Channel) (q : Coded ProbeType) (n : Word) :
    ((n - t0).toNat % 2 ^ s.params.tw < d → exec (.muxSel c q) { s with now := n } = .next { s with now := n }) ∧
    (d ≤ (n - t0).toNat % 2 ^ s.params.tw → exec (.muxSel c q) { s with now := n } = .next
      { s with now := n, muxState := .selected, seq := .idle, status := s.status.finish true }) := by
  have hexec := exec_muxSel_hold (s := { s with now := n }) hseq c q
  exact ⟨fun h => hexec.trans (whenElapsed_of_lt h), fun h => hexec.trans (whenElapsed_of_le h)⟩

/-- A `MUX_SEL` whose switch is not settled when the lines are driven holds. -/
theorem exists_holding (hseq : s.seq = .start)
    (hreq : s.muxRequest (.known ch) (.known p) = .select ch p fam)
    (hstate : (s.driven ch p fam).muxState = .switching)
    (hearly : s.elapsed (s.driven ch p fam).muxTs < s.params.settle fam) :
    ∃ v, engineSteps (.muxSel (.known ch) (.known p)) (s.setUpSteps ch p fam) s = .next v ∧
      Holding ch p fam (s.driven ch p fam).muxTs s v := by
  have hsetup := s.setUp_driven ch p fam
  have hsteps := SelectCommand.blocking.engineSteps_driven hseq hreq
  have hparams : (s.driven ch p fam).params = s.params := State.driven_params
  have hstatus : (s.driven ch p fam).status = s.status := State.driven_status
  rw [← State.driven_elapsed (ch := ch) (p := p) (fam := fam), ← hparams] at hearly
  rw [State.muxSelEnd_early hstate hearly] at hsteps
  generalize s.driven ch p fam = u at *
  refine ⟨_, hsteps, hsetup.withSwitch u.muxState _ u.status, rfl, hstate, nofun, hstatus, ?_⟩
  rw [← hparams, ← hstatus]
  exact exec_muxSel_hold_at (s := u.goTo (.hold 2 u.muxTs (u.params.settle fam) false)) rfl _ _

/-- On changed lines it holds from the change. -/
theorem exists_holding_of_ne (hseq : s.seq = .start)
    (hreq : s.muxRequest (.known ch) (.known p) = .select ch p fam)
    (hlines : oneHot (physOf ch s.reverse) ≠ s.sel) (hdelay : s.params.settle fam ≠ 0) :
    ∃ v, engineSteps (.muxSel (.known ch) (.known p)) (s.setUpSteps ch p fam) s = .next v ∧
      Holding ch p fam s.now s v := by
  obtain ⟨hts, hstate⟩ := State.driven_switch_of_ne (p := p) (fam := fam) hlines
  rw [← hts]
  refine exists_holding hseq hreq hstate ?_
  rw [hts, State.elapsed_now]
  exact Nat.pos_of_ne_zero hdelay

/-- On lines already driven it holds the remainder of a pending switch. -/
theorem exists_holding_of_eq (hseq : s.seq = .start)
    (hreq : s.muxRequest (.known ch) (.known p) = .select ch p fam)
    (hlines : s.sel = oneHot (physOf ch s.reverse)) (hstate : s.muxState = .switching)
    (hearly : s.elapsed s.muxTs < s.params.settle fam) :
    ∃ v, engineSteps (.muxSel (.known ch) (.known p)) (s.setUpSteps ch p fam) s = .next v ∧
      Holding ch p fam s.muxTs s v := by
  obtain ⟨hts, hsame⟩ := State.driven_switch_of_eq (p := p) (fam := fam) hlines
  rw [← hts] at hearly ⊢
  exact exists_holding hseq hreq (hsame.trans hstate) hearly

/-- Settles O39: the TC set-up is one step, and on changed lines the command holds. -/
theorem selectTcSwitches : Obligations.SelectTcSwitches := by
  intro s ch p hseq hfam hactive hch hlines hdelay
  have hreq : s.muxRequest (.known ch) (.known p) = .select ch p .tc := State.muxRequest_eq_select hfam hactive hch
  obtain ⟨u, hsteps, hhold⟩ := exists_holding_of_ne hseq hreq hlines hdelay
  rw [State.setUpSteps_tc, engineSteps_one] at hsteps
  have hcount : spiCount u.trace = spiCount s.trace := by simpa using hhold.setUp.spiCount
  have hprobe := hhold.setUp.tcProbe
  refine ⟨u, hsteps, hhold.setUp, hhold.setUp.route_tc, hhold.muxTs, hhold.muxState, hhold.seq, hhold.status, hcount,
    fun hnew => ?_, fun hcur hcache => ?_, hhold.waits⟩
  · rw [hprobe, if_pos (State.reprograms_iff.mpr hnew)]
  · simp [hprobe, State.reprograms_eq_false_iff.mpr ⟨hcur, hcache⟩]

/-- Settles O40: the reprogram is the first of two steps, and on changed lines the command holds. -/
theorem selectRtdSwitches : Obligations.SelectRtdSwitches := by
  intro s ch p hseq hfam hactive hch hlines hdelay new cfg
  have hreq : s.muxRequest (.known ch) (.known p) = .select ch p .rtd := State.muxRequest_eq_select hfam hactive hch
  obtain ⟨v, hsteps, hhold⟩ := exists_holding_of_ne hseq hreq hlines hdelay
  rw [State.setUpSteps_rtd] at hsteps
  have hcount : spiCount v.trace = spiCount s.trace + if s.reprograms ch p then 1 else 0 := by
    simpa using hhold.setUp.spiCount
  refine ⟨fun hnew => ?_, fun hnew => ?_, v, hsteps, hhold.setUp, hhold.setUp.route_rtd, hhold.muxTs, hhold.muxState,
    hhold.seq, hhold.status, hcount, hhold.setUp.mirror, hhold.waits⟩
  · exact ⟨_, SelectCommand.blocking.exec_start_reprogram hseq hreq hnew, s.reprogramRtd_eq p⟩
  · have hcached : s.reprograms ch p = false := hnew
    rw [hcached] at hsteps
    exact ⟨v, (engineSteps_one ..).symm.trans hsteps, hhold.setUp.cached hcached⟩

/-! ### Selections that end (R109, R110, R163) -/

/-- On lines already driven, both commands end with `OK` if no switch is pending or it has settled. -/
theorem SelectCommand.exists_ended_of_due {i : Instr} {fin : Family → State → State} (h : SelectCommand ch p i fin)
    (hseq : s.seq = .start) (hreq : s.muxRequest (.known ch) (.known p) = .select ch p fam)
    (hlines : s.sel = oneHot (physOf ch s.reverse))
    (hdue : s.muxState = .selected ∨ s.params.settle fam ≤ s.elapsed s.muxTs) :
    ∃ t, engineSteps i (s.setUpSteps ch p fam) s = .next t ∧ SetUp ch p fam s t ∧ t.seq = .idle ∧
      t.status = s.status.finish true ∧ t.muxState = .selected ∧ t.muxTs = s.muxTs := by
  obtain ⟨hts, hstate⟩ := State.driven_switch_of_eq (p := p) (fam := fam) hlines
  have hend := h.end_due (u := s.driven ch p fam) (fam := fam)
    (by rwa [hstate, hts, State.driven_elapsed, State.driven_params])
  have hsetup := h.setUp_end (s.setUp_driven ch p fam)
  rw [hend] at hsetup
  exact ⟨_, hend ▸ h.engineSteps_driven hseq hreq, hsetup, rfl,
    congrArg (Status.finish true) State.driven_status, rfl, hts⟩

/-- While the switch that the driven lines leave is not settled, `MUX_SEL_ASYNC` ends without `OK`. -/
theorem exists_ended_of_early (hseq : s.seq = .start)
    (hreq : s.muxRequest (.known ch) (.known p) = .select ch p fam)
    (hstate : (s.driven ch p fam).muxState = .switching)
    (hearly : s.elapsed (s.driven ch p fam).muxTs < s.params.settle fam) :
    ∃ t, engineSteps (.muxSelAsync (.known ch) (.known p)) (s.setUpSteps ch p fam) s = .next t ∧
      SetUp ch p fam s t ∧ t.seq = .idle ∧ t.status = s.status.finish false ∧ t.muxState = .switching ∧
      t.muxTs = (s.driven ch p fam).muxTs := by
  have hend := State.muxSelAsyncEnd_early (fam := fam) hstate (by rwa [State.driven_elapsed, State.driven_params])
  have hsetup := SelectCommand.async.setUp_end (s.setUp_driven ch p fam)
  rw [hend] at hsetup
  exact ⟨_, hend ▸ SelectCommand.async.engineSteps_driven hseq hreq, hsetup, rfl,
    congrArg (Status.finish false) State.driven_status, hstate, rfl⟩

/-- Settles O42: the lines keep the switch, which both ends find due, or which `MUX_SEL` waits out. -/
theorem selectWithoutSwitch : Obligations.SelectWithoutSwitch := by
  intro s ch p fam hseq hfam hactive hch hlines k d ended
  have hreq := State.muxRequest_eq_select hfam hactive hch
  have hk : s.setUpSteps ch p fam = k := s.setUpSteps_eq ch p fam
  have hd : s.params.settle fam = d := by cases fam <;> rfl
  refine ⟨fun i hi hdue => ?_, fun hswitching hearly => ?_⟩
  · rw [← hd] at hdue
    rw [← hk]
    rcases hi with rfl | rfl
    · exact SelectCommand.blocking.exists_ended_of_due hseq hreq hlines hdue
    · exact SelectCommand.async.exists_ended_of_due hseq hreq hlines hdue
  · obtain ⟨v, hsteps, hhold⟩ := exists_holding_of_eq hseq hreq hlines hswitching (hd ▸ hearly)
    exact ⟨v, hk ▸ hsteps, hhold.setUp, hhold.seq, hhold.status, hhold.muxState, hhold.muxTs, hd ▸ hhold.waits⟩

/-- Settles O44: the lines keep the switch, and whether it is due decides the end. -/
theorem asyncSettleWindow : Obligations.AsyncSettleWindow := by
  intro s ch p fam hseq hfam hactive hch hlines hswitching k d due
  have hreq := State.muxRequest_eq_select hfam hactive hch
  have hk : s.setUpSteps ch p fam = k := s.setUpSteps_eq ch p fam
  have hd : s.params.settle fam = d := by cases fam <;> rfl
  obtain ⟨hts, hstate⟩ := State.driven_switch_of_eq (p := p) (fam := fam) hlines
  rw [← hk]
  cases hdue : due with
  | true =>
    have hpassed : s.params.settle fam ≤ s.elapsed s.muxTs := hd ▸ of_decide_eq_true hdue
    exact SelectCommand.async.exists_ended_of_due hseq hreq hlines (.inr hpassed)
  | false =>
    have hearly : s.elapsed s.muxTs < s.params.settle fam := hd ▸ Nat.not_le.mp (of_decide_eq_false hdue)
    rw [← hts] at hearly ⊢
    exact exists_ended_of_early hseq hreq (hstate.trans hswitching) hearly

/-- Selecting again what is selected drives the route and the lines at their levels. -/
theorem State.driven_selected (hout : s.outCfg = true) (hcur : s.curChannel = some ch) (hcache : s.cache.get ch = p)
    (hlines : s.sel = oneHot (physOf ch s.reverse)) (hroute : s.route = s.params.routeLevel fam) :
    s.driven ch p fam =
      { s with
        trace := s.trace ++ [.pin .route (levelOf s.route)] ++
          [.pin .sel0 (levelOf (s.sel.getLsbD 0)), .pin .sel1 (levelOf (s.sel.getLsbD 1)),
           .pin .sel2 (levelOf (s.sel.getLsbD 2))] } := by
  have hnew : s.reprograms ch p = false := State.reprograms_eq_false_iff.mpr ⟨hcur, hcache⟩
  rw [State.driven, State.prepared_of_cached hnew, State.selectLines_eq]
  simp only [State.setRoute, State.routeEvents, State.selEvents, State.pinRoute, State.pinSel, ← hlines, ← hroute, hout,
    ← hcur, if_true, Bool.true_and]

/-- Settles O41: nothing of the state is new, so that both commands end at once. -/
theorem reselectionIsImmediate : Obligations.ReselectionIsImmediate := by
  intro s ch p fam hseq hfam hactive hch hout hcur hcache hlines hstate hroute ended
  have hnew : s.reprograms ch p = false := State.reprograms_eq_false_iff.mpr ⟨hcur, hcache⟩
  have hdriven := State.driven_selected (fam := fam) hout hcur hcache hlines (by cases fam <;> exact hroute)
  have hends (i : Instr) (fin : Family → State → State) (hcommand : SelectCommand ch p i fin) :
      exec i s = .next ended := by
    rw [hcommand.exec_start_drive hseq (State.muxRequest_eq_select hfam hactive hch) (by rw [hnew]; rfl), hdriven]
    exact congrArg _ (hcommand.end_selected hstate)
  exact ⟨hends _ _ .blocking, hends _ _ .async⟩

/-! ### Lines that change (R110) -/

/-- Settles O43: the first step is the reprogram or the whole selection, and on changed lines the end is early. -/
theorem asyncSelectStartsSwitch : Obligations.AsyncSelectStartsSwitch := by
  intro s ch p fam hseq hfam hactive hch hlines hdelay new
  have hreq := State.muxRequest_eq_select hfam hactive hch
  have hd : 0 < s.params.settle fam := by cases fam <;> exact Nat.pos_of_ne_zero hdelay
  obtain ⟨hts, hstate⟩ := State.driven_switch_of_ne (p := p) (fam := fam) hlines
  obtain ⟨t, hsteps, hsetup, hidle, hstatus, hswitching, htaken⟩ :=
    exists_ended_of_early hseq hreq hstate (by rwa [hts, State.elapsed_now])
  refine ⟨⟨_, SelectCommand.async.exec_start hseq hreq⟩, t, s.setUpSteps_eq ch p fam ▸ hsteps, hsetup, hidle, hstatus,
    htaken.trans hts, hswitching, ?_, ?_⟩
  · rintro rfl hnew
    exact (hsetup.mirror (State.reprograms_iff.mpr hnew)).symm
  · rintro rfl hnew
    rw [hsetup.tcProbe, if_pos (State.reprograms_iff.mpr hnew)]

end

end Sys2Proof.Machine
end

section
open Sys2Proof Sys2Proof.Machine
namespace Sys2Proof.Machine

section
variable {ch : Channel} {p : ProbeType} {fam : Family} {s t v : State} {i : Instr} {fin : Family → State → State}

/-! ### No step is early (R107, R109, R110) -/

/-- What a step of a select command from outside a hold keeps to: the clauses of `SwitchNeverEndsEarly` about a change
of lines, an end with `OK` and a hold that is entered. -/
structure NotEarly (i : Instr) (ch : Channel) (p : ProbeType) (fam : Family) (s t : State) : Prop where
  changed : t.sel ≠ s.sel → t.muxTs = s.now ∧
    (s.params.settle fam ≠ 0 → t.muxState = .switching ∧ (t.seq = .idle → t.status.ok = false))
  ended : t.seq = .idle → t.status.ok = true →
    t.muxState = .selected ∧ (t.sel ≠ s.sel ∨ s.muxState = .switching → s.params.settle fam ≤ s.elapsed t.muxTs)
  held : ∀ label t0 w flag, t.seq = .hold label t0 w flag →
    i = .muxSel (.known ch) (.known p) ∧ t0 = t.muxTs ∧ w = s.params.settle fam ∧ t.muxState = .switching ∧
      s.elapsed t0 < s.params.settle fam

/-- A step that leaves the lines and neither ends with `OK` nor holds. -/
theorem NotEarly.of_sel_eq (hsel : t.sel = s.sel) (hok : t.seq = .idle → t.status.ok = false)
    (hhold : ∀ label t0 w flag, t.seq ≠ .hold label t0 w flag) : NotEarly i ch p fam s t where
  changed hne := absurd hsel hne
  ended hidle htrue := by simp [hok hidle] at htrue
  held label t0 w flag hseq := absurd hseq (hhold label t0 w flag)

/-- The end of a switch that is due: where the lines have just changed, or a switch was pending, its delay is over. -/
theorem SelectCommand.notEarly_of_due (h : SelectCommand ch p i fin) (hdrove : Drove s v)
    (hdue : v.muxState = .selected ∨ v.params.settle fam ≤ v.elapsed v.muxTs) :
    NotEarly i ch p fam s (fin fam v) := by
  have hpassed (hswitching : v.muxState = .switching) : s.params.settle fam ≤ s.elapsed v.muxTs := by
    rw [← hdrove.params, ← hdrove.elapsed]
    simpa [hswitching] using hdue
  rw [h.end_due hdue]
  refine ⟨fun hne => ?_, fun _ _ => ⟨rfl, fun hcause => ?_⟩, nofun⟩
  · obtain ⟨hts, hstate⟩ := hdrove.changed hne
    have hzero : s.params.settle fam = 0 := by simpa [hts] using hpassed hstate
    exact ⟨hts, fun hdelay => absurd hzero hdelay⟩
  · by_cases heq : v.sel = s.sel
    · exact hpassed ((hdrove.kept heq).2.trans (hcause.resolve_left (absurd heq)))
    · exact hpassed (hdrove.changed heq).2

/-- The end of a switch that is not settled: a hold of the delay, or an end without `OK`. -/
theorem SelectCommand.notEarly_of_early (h : SelectCommand ch p i fin) (hdrove : Drove s v)
    (hstate : v.muxState = .switching) (hearly : v.elapsed v.muxTs < v.params.settle fam) :
    NotEarly i ch p fam s (fin fam v) := by
  cases h with
  | blocking =>
    rw [State.muxSelEnd_early hstate hearly]
    rw [hdrove.elapsed, hdrove.params] at hearly
    refine ⟨fun hne => ⟨(hdrove.changed hne).1, fun _ => ⟨hstate, nofun⟩⟩, nofun, fun label t0 w flag hseq => ?_⟩
    cases hseq
    exact ⟨rfl, rfl, by rw [hdrove.params], hstate, hearly⟩
  | async =>
    rw [State.muxSelAsyncEnd_early hstate hearly]
    exact ⟨fun hne => ⟨(hdrove.changed hne).1, fun _ => ⟨hstate, fun _ => rfl⟩⟩, fun _ => nofun, nofun⟩

/-- The step that drives the lines and comes to the end of the command. -/
theorem SelectCommand.notEarly_end (h : SelectCommand ch p i fin) (hdrove : Drove s v) :
    NotEarly i ch p fam s (fin fam v) := by
  obtain hdue | ⟨hstate, hearly⟩ := v.due_or_early fam
  · exact h.notEarly_of_due hdrove hdue
  · exact h.notEarly_of_early hdrove hstate hearly

theorem State.reprogramRtd_sel (p : ProbeType) (s : State) : (s.reprogramRtd p).sel = s.sel := by
  simp [State.reprogramRtd]

/-- The first step of a select command on a channel that exists. -/
theorem SelectCommand.notEarly_start (h : SelectCommand ch p i fin) (hfam : familyOf p = some fam)
    (hch : channelCode ch < s.params.nch) (hseq : s.seq = .start) (hexec : exec i s = .next t) :
    NotEarly i ch p fam s t := by
  cases hactive : s.familyActive fam with
  | false =>
    have hreq : s.muxRequest (.known ch) (.known p) = .error .inactive := by
      simp [State.muxRequest, hfam, hactive]
    have hfail : exec i s = .next (s.fail .inactive) := by
      cases h <;> simp only [exec, execMuxSel, execMuxSelAsync, hseq, hreq]
    cases hfail.symm.trans hexec
    exact .of_sel_eq rfl (fun _ => rfl) nofun
  | true =>
    have hreq := State.muxRequest_eq_select hfam hactive hch
    cases htwo : s.reprograms ch p && decide (fam = .rtd) with
    | false =>
      cases (h.exec_start_drive hseq hreq htwo).symm.trans hexec
      exact h.notEarly_end (drove_driven ch p fam s)
    | true =>
      obtain ⟨hnew, rfl⟩ : s.reprograms ch p = true ∧ fam = .rtd := by simpa using htwo
      cases (h.exec_start_reprogram hseq hreq hnew).symm.trans hexec
      exact .of_sel_eq (State.reprogramRtd_sel p s) nofun nofun

/-- A step of a select command is not early, or it is a step of the hold of `MUX_SEL`. -/
theorem SelectCommand.notEarly_or_hold (h : SelectCommand ch p i fin) (hfam : familyOf p = some fam)
    (hch : channelCode ch < s.params.nch) (hfits : SeqFits s.params i s.seq = true) (hexec : exec i s = .next t) :
    ((∀ label t0 w flag, s.seq ≠ .hold label t0 w flag) ∧ NotEarly i ch p fam s t) ∨
      ∃ t0 w flag, s.seq = .hold 2 t0 w flag ∧
        whenElapsed t0 w s (({ s with muxState := .selected } : State).finish true) = .next t := by
  cases hseq : s.seq with
  | idle => simp [hseq, SeqFits] at hfits
  | start => exact .inl ⟨nofun, h.notEarly_start hfam hch hseq hexec⟩
  | sent label rx rev =>
    have hsent : familyOf p = some .rtd ∧ label = 1 := by
      cases h <;> simpa [hseq, SeqFits, sentPoints] using hfits
    obtain ⟨hrtd, rfl⟩ := hsent
    obtain rfl : fam = .rtd := Option.some.inj (hfam.symm.trans hrtd)
    cases (h.exec_sent hseq).symm.trans hexec
    have hsame : SameSwitch s (s.cacheProbe ch p) := ⟨rfl, rfl, rfl, rfl, rfl, rfl, rfl⟩
    exact .inl ⟨nofun, h.notEarly_end (hsame.drove ch rev)⟩
  | hold label t0 w flag =>
    cases h with
    | blocking =>
      obtain rfl : label = 2 := by
        simp only [hseq, SeqFits, holdPoints, Bool.and_eq_true, decide_eq_true_eq, List.mem_singleton] at hfits
        exact hfits.1
      exact .inr ⟨t0, w, flag, rfl, (exec_muxSel_hold hseq _ _).symm.trans hexec⟩
    | async => simp [hseq, SeqFits, holdPoints] at hfits

/-- Settles O45: from outside a hold, by `NotEarly`; from a hold the step ends it, with its delay over, or changes
nothing. -/
theorem switchNeverEndsEarly : Obligations.SwitchNeverEndsEarly := by
  intro s t i ch p fam hfam hch hi hfits hexec d since
  have hd : s.params.settle fam = d := by cases fam <;> rfl
  obtain ⟨fin, hcommand⟩ : ∃ fin, SelectCommand ch p i fin := by
    rcases hi with rfl | rfl
    · exact ⟨_, .blocking⟩
    · exact ⟨_, .async⟩
  obtain ⟨hno, hnotEarly⟩ | ⟨t0, w, flag, hseq, hwait⟩ := hcommand.notEarly_or_hold hfam hch hfits hexec
  · rw [← hd]
    exact ⟨hnotEarly.changed, fun _ => hnotEarly.ended,
      fun label t0 w flag hseq _ => hnotEarly.held label t0 w flag hseq,
      fun label t0 w flag hseq => absurd hseq (hno label t0 w flag)⟩
  · obtain ⟨hpassed, rfl⟩ | ⟨-, rfl⟩ := whenElapsed_next.mp hwait
    · refine ⟨fun hne => absurd rfl hne, fun hno => absurd hseq (hno 2 t0 w flag), nofun,
        fun label t0' w' flag' hseq' _ => ?_⟩
      cases hseq.symm.trans hseq'
      exact ⟨hpassed, rfl, rfl, rfl, rfl, rfl⟩
    · exact ⟨fun hne => absurd rfl hne, fun hno => absurd hseq (hno 2 t0 w flag), fun _ _ _ _ _ hne => absurd rfl hne,
        fun _ _ _ _ _ hne => absurd rfl hne⟩

end

end Sys2Proof.Machine
end

section
open Sys2Proof Sys2Proof.Machine
namespace Sys2Proof.Machine

/-! ### Acquire and release as one update (44_lifecycle.md R111, R112) -/

/-- The trace entries of the shared outputs going low, none where they are `kept`. -/
def clearEvents (kept : Bool) : List Event :=
  if kept then [] else [.pin .sel0 .low, .pin .sel1 .low, .pin .sel2 .low, .pin .route .low]

/-- The shared outputs left alone where they are `kept`, and otherwise cleared and set to `on`. -/
def State.clearMuxUnless (kept on : Bool) (s : State) : State :=
  { s with
    outCfg := if kept then s.outCfg else on
    sel := if kept then s.sel else 0#3
    route := if kept then s.route else false
    curChannel := if kept then s.curChannel else none
    cache := if kept then s.cache else ⟨.none, .none, .none⟩
    muxState := if kept then s.muxState else .selected
    muxTs := if kept then s.muxTs else 0#32
    trace := s.trace ++ clearEvents kept }

@[simp] theorem spiCount_clearEvents (kept : Bool) : spiCount (clearEvents kept) = 0 := by cases kept <;> rfl
@[simp] theorem spiOnly_clearEvents (kept : Bool) : spiOnly (clearEvents kept) = [] := by cases kept <;> rfl

section
variable (s : State) (kept on : Bool)

theorem State.clearMuxUnless_eq : s.clearMuxUnless kept on = if kept then s else s.clearMux on := by
  cases kept with
  | true => simp [State.clearMuxUnless, clearEvents]
  | false => rfl

theorem State.acquire_eq_clearMuxUnless : s.acquire = s.clearMuxUnless (s.tcActive || s.rtdActive) true := by
  rw [State.acquire_eq, State.clearMuxUnless_eq]

theorem State.release_eq_clearMuxUnless :
    s.release = s.clearMuxUnless (s.tcActive || s.rtdActive || !s.outCfg) false := by
  rw [State.release_eq, State.clearMuxUnless_eq]

@[simp] theorem State.clearMuxUnless_params : (s.clearMuxUnless kept on).params = s.params := rfl
@[simp] theorem State.clearMuxUnless_status : (s.clearMuxUnless kept on).status = s.status := rfl
@[simp] theorem State.clearMuxUnless_tcActive : (s.clearMuxUnless kept on).tcActive = s.tcActive := rfl
@[simp] theorem State.clearMuxUnless_rtdActive : (s.clearMuxUnless kept on).rtdActive = s.rtdActive := rfl
@[simp] theorem State.clearMuxUnless_outCfg :
    (s.clearMuxUnless kept on).outCfg = if kept then s.outCfg else on := rfl
@[simp] theorem State.clearMuxUnless_csTc : (s.clearMuxUnless kept on).csTc = s.csTc := rfl
@[simp] theorem State.clearMuxUnless_trace :
    (s.clearMuxUnless kept on).trace = s.trace ++ clearEvents kept := rfl
@[simp] theorem State.clearMuxUnless_miso (n : Nat) : (s.clearMuxUnless kept on).miso n = s.miso n := rfl

end

/-! ### Closing sub-drivers (R116 to R118) -/

/-- `s` with the sub-drivers left that `tc` and `rtd` say: the others are closed, and the shared outputs are released
with the last one. -/
def State.closedTo (tc rtd : Bool) (s : State) : State :=
  ({ s with
      tcActive := tc
      rtdActive := rtd
      csTc := if s.tcActive && !tc then .z else s.csTc
      csRtd := if s.rtdActive && !rtd then .z else s.csRtd
      rtdState := if s.rtdActive && !rtd then .idle else s.rtdState
      trace := s.trace ++ (if s.tcActive && !tc then [.pin .csTc .z] else []) ++
        (if s.rtdActive && !rtd then [.pin .csRtd .z] else []) } : State).clearMuxUnless
    (!s.outCfg || tc || rtd) false

section
variable {s : State}

theorem State.closedTo_self (hout : s.outCfg = (s.tcActive || s.rtdActive)) :
    s.closedTo s.tcActive s.rtdActive = s := by
  have hkept : (!s.outCfg || s.tcActive || s.rtdActive) = true := by
    rw [hout]; cases s.tcActive <;> cases s.rtdActive <;> rfl
  simp [State.closedTo, State.clearMuxUnless_eq, hkept]

/-- The body of `END_TC` closes the TC sub-driver. -/
theorem State.tcClose_eq (hout : s.outCfg = (s.tcActive || s.rtdActive)) :
    s.tcClose = s.closedTo false s.rtdActive := by
  cases htc : s.tcActive with
  | false => rw [← htc, State.closedTo_self hout, State.tcClose, htc]; rfl
  | true =>
    have hrelease : s.tcClose = ({ s.setCs .tc .z with tcActive := false } : State).release := if_pos htc
    rw [hrelease, State.release_eq_clearMuxUnless]
    simp [State.closedTo, State.setCs, State.driveCs, csPin, htc, hout]

/-- The body of `END_RTD` closes the RTD sub-driver. -/
theorem State.rtdClose_eq (hout : s.outCfg = (s.tcActive || s.rtdActive)) :
    s.rtdClose = s.closedTo s.tcActive false := by
  cases hrtd : s.rtdActive with
  | false => rw [← hrtd, State.closedTo_self hout, State.rtdClose, hrtd]; rfl
  | true =>
    have hrelease : s.rtdClose = ({ s.setCs .rtd .z with rtdActive := false, rtdState := .idle } : State).release :=
      if_pos hrtd
    rw [hrelease, State.release_eq_clearMuxUnless]
    simp [State.closedTo, State.setCs, State.driveCs, csPin, hrtd, hout]

theorem State.closedTo_outCfg (hout : s.outCfg = (s.tcActive || s.rtdActive)) {tc rtd : Bool}
    (htc : tc = true → s.tcActive = true) (hrtd : rtd = true → s.rtdActive = true) :
    (s.closedTo tc rtd).outCfg = (tc || rtd) := by
  show (if (!s.outCfg || tc || rtd) = true then s.outCfg else false) = (tc || rtd)
  cases tc <;> cases rtd <;> simp_all

/-- Closing the TC and then the RTD sub-driver closes both. -/
theorem State.closedTo_closedTo (hout : s.outCfg = (s.tcActive || s.rtdActive)) :
    (s.closedTo false s.rtdActive).closedTo false false = s.closedTo false false := by
  cases htc : s.tcActive <;> cases hrtd : s.rtdActive <;>
    simp [State.closedTo, htc, hrtd, hout, State.clearMuxUnless_eq, State.clearMux]

theorem spiCount_closedTo (tc rtd : Bool) : spiCount (s.closedTo tc rtd).trace = spiCount s.trace := by
  simp [State.closedTo, apply_ite spiCount, spiCount]

/-- An end command closes the sub-drivers it names. -/
theorem exec_end_start {i : Instr} (hseq : s.seq = .start) (hout : s.outCfg = (s.tcActive || s.rtdActive))
    (hi : i = .endTc ∨ i = .endRtd ∨ i = .endBoth) :
    exec i s = .next ((s.closedTo (s.tcActive && decide (i ≠ .endTc) && decide (i ≠ .endBoth))
      (s.rtdActive && decide (i ≠ .endRtd) && decide (i ≠ .endBoth))).finish true) := by
  obtain rfl | rfl | rfl := hi
  · simp [exec, execEndTc, hseq, State.tcClose_eq hout]
  · simp [exec, execEndRtd, hseq, State.rtdClose_eq hout]
  · have htc : (s.closedTo false s.rtdActive).outCfg = (false || s.rtdActive) :=
      State.closedTo_outCfg hout nofun id
    have hboth : s.tcClose.rtdClose = s.closedTo false false := by
      rw [State.tcClose_eq hout, State.rtdClose_eq htc]
      exact State.closedTo_closedTo hout
    simp [exec, execEndBoth, hseq, hboth]

end

/-- Settles O51: the end commands leave `closedTo`, and every clause reads off one of its fields. -/
theorem endCommandsComplete : Obligations.EndCommandsComplete := by
  intro i s hseq hout hi tc rtd kept
  have houtCfg : (s.closedTo tc rtd).outCfg = (tc || rtd) :=
    State.closedTo_outCfg hout (fun h => by simp_all [tc]) (fun h => by simp_all [rtd])
  exact ⟨(s.closedTo tc rtd).finish true, exec_end_start hseq hout hi, rfl, rfl, rfl, rfl, houtCfg, rfl, rfl, rfl,
    rfl, rfl, rfl, rfl, rfl, rfl, spiCount_closedTo tc rtd, rfl⟩

end Sys2Proof.Machine
end

section
open Sys2Proof Sys2Proof.Machine
namespace Sys2Proof.Machine

/-! ### The parts of the state a begin command writes or keeps

Three views, so that what an operation does to a part is one equation. -/

/-- The state that no lifecycle command writes. -/
def State.lifecycleKept (s : State) :
    (Params × (Word × Word × Word × Word) × Latch × (Word × Bool × Bool) × Option Word × List Turn) ×
      Word × (ProbeType × BitVec 4 × Fp × BitVec 4) :=
  (s.outside, s.result, s.tcProbe, s.tcMask, s.tcOffset, s.tcLastFault)

/-- The state of the RTD sub-driver. -/
def State.rtdPart (s : State) : Bool × Level × Byte × ProbeType × RtdState × Word × Bool :=
  (s.rtdActive, s.csRtd, s.cfg, s.rtdProbe, s.rtdState, s.rtdTs, s.rtdAsyncBiasWasOn)

/-- The state of an RTD sub-driver that has just been opened (R114). -/
def openedRtd : Bool × Level × Byte × ProbeType × RtdState × Word × Bool :=
  (true, .high, 0x00#8, .none, .idle, 0#32, false)

/-- The state of the multiplexer, without the handle. -/
def State.muxSettings (s : State) : BitVec 3 × Bool × Option Channel × Cache × MuxState × Word :=
  (s.sel, s.route, s.curChannel, s.cache, s.muxState, s.muxTs)

/-- The multiplexer's state at acquire and release (44_lifecycle.md R111, R112). -/
def clearedSettings : BitVec 3 × Bool × Option Channel × Cache × MuxState × Word :=
  (0#3, false, none, ⟨.none, .none, .none⟩, .selected, 0#32)

section
variable {s t : State} (kept on : Bool) (chip : Chip) (l : Level) (mosi : List Byte) (pos : SeqPos)

@[simp] theorem State.clearMuxUnless_lifecycleKept :
    (s.clearMuxUnless kept on).lifecycleKept = s.lifecycleKept := rfl
@[simp] theorem State.clearMuxUnless_rtdPart : (s.clearMuxUnless kept on).rtdPart = s.rtdPart := rfl
@[simp] theorem State.clearMuxUnless_muxSettings :
    (s.clearMuxUnless kept on).muxSettings = if kept then s.muxSettings else clearedSettings := by
  cases kept <;> rfl

@[simp] theorem State.setCs_lifecycleKept : (s.setCs chip l).lifecycleKept = s.lifecycleKept := by
  cases chip <;> rfl
@[simp] theorem State.setCs_rtdPart_tc : (s.setCs .tc l).rtdPart = s.rtdPart := rfl
@[simp] theorem State.setCs_muxSettings : (s.setCs chip l).muxSettings = s.muxSettings := by cases chip <;> rfl
@[simp] theorem State.setCs_miso (n : Nat) : (s.setCs chip l).miso n = s.miso n := by cases chip <;> rfl

@[simp] theorem State.spiXfer_lifecycleKept : (s.spiXfer chip mosi).lifecycleKept = s.lifecycleKept := by
  cases chip <;> rfl
@[simp] theorem State.spiXfer_muxSettings : (s.spiXfer chip mosi).muxSettings = s.muxSettings := by
  cases chip <;> rfl

@[simp] theorem State.send_lifecycleKept : (s.send chip mosi pos).lifecycleKept = s.lifecycleKept := by
  cases chip <;> rfl
@[simp] theorem State.send_rtdPart_tc : (s.send .tc mosi pos).rtdPart = s.rtdPart := rfl
@[simp] theorem State.send_muxSettings : (s.send chip mosi pos).muxSettings = s.muxSettings := by
  cases chip <;> rfl

/-- The settings one by one, as statements about a command write them. -/
theorem State.muxSettings_fields {kept : Bool}
    (h : t.muxSettings = if kept then s.muxSettings else clearedSettings) :
    t.sel = (if kept then s.sel else 0#3) ∧ t.route = (if kept then s.route else false) ∧
      t.curChannel = (if kept then s.curChannel else none) ∧
      t.cache = (if kept then s.cache else ⟨.none, .none, .none⟩) ∧
      t.muxState = (if kept then s.muxState else .selected) ∧ t.muxTs = (if kept then s.muxTs else 0#32) := by
  cases kept <;> simpa [State.muxSettings, clearedSettings] using h

/-- The fields of an RTD sub-driver that is kept. -/
theorem State.rtdPart_fields (h : t.rtdPart = s.rtdPart) :
    t.csRtd = s.csRtd ∧ t.cfg = s.cfg ∧ t.rtdProbe = s.rtdProbe ∧ t.rtdState = s.rtdState ∧ t.rtdTs = s.rtdTs ∧
      t.rtdAsyncBiasWasOn = s.rtdAsyncBiasWasOn := by
  simp only [State.rtdPart, Prod.mk.injEq] at h
  exact h.2

/-- The fields of an RTD sub-driver that has just been opened. -/
theorem State.rtdPart_openedRtd (h : t.rtdPart = openedRtd) :
    t.csRtd = .high ∧ t.cfg = 0x00#8 ∧ t.rtdProbe = .none ∧ t.rtdState = .idle ∧ t.rtdTs = 0#32 ∧
      t.rtdAsyncBiasWasOn = false := by
  simp only [State.rtdPart, openedRtd, Prod.mk.injEq] at h
  exact h.2

/-- The frame of `BEGIN`. -/
theorem State.eq_of_lifecycleKept (h : t.lifecycleKept = s.lifecycleKept) :
    t = { s with
          seq := t.seq, status := t.status, tcActive := t.tcActive, rtdActive := t.rtdActive, outCfg := t.outCfg
          csTc := t.csTc, csRtd := t.csRtd, cfg := t.cfg, rtdProbe := t.rtdProbe, rtdState := t.rtdState
          rtdTs := t.rtdTs, rtdAsyncBiasWasOn := t.rtdAsyncBiasWasOn, sel := t.sel, route := t.route
          curChannel := t.curChannel, cache := t.cache, muxState := t.muxState, muxTs := t.muxTs
          trace := t.trace, sclk := t.sclk, mosi := t.mosi, misoIn := t.misoIn, freeCount := t.freeCount } := by
  cases t
  simp_all [State.lifecycleKept, State.outside]

/-- The frame of `BEGIN_TC`. -/
theorem State.eq_of_lifecycleKept_rtdPart (h : t.lifecycleKept = s.lifecycleKept) (hrtd : t.rtdPart = s.rtdPart) :
    t = { s with
          seq := t.seq, status := t.status, tcActive := t.tcActive, outCfg := t.outCfg, csTc := t.csTc
          sel := t.sel, route := t.route, curChannel := t.curChannel, cache := t.cache, muxState := t.muxState
          muxTs := t.muxTs, trace := t.trace, sclk := t.sclk, mosi := t.mosi, misoIn := t.misoIn
          freeCount := t.freeCount } := by
  cases t
  simp_all [State.lifecycleKept, State.outside, State.rtdPart]

end

/-! ### Opening the RTD sub-driver (R114) -/

/-- A write of the RTD chip. -/
def State.rtdXfer (addr val : Byte) (s : State) : State := s.spiXfer .rtd [addr ||| 0x80#8, val]

/-- The state in which `BEGIN_RTD` makes its writes. -/
def State.rtdReset (s : State) : State := { s.acquire.setCs .rtd .high with cfg := 0x00#8, rtdProbe := .none }

/-- The seven writes, in order. -/
def State.rtdWrites (s : State) : State :=
  let c := s.params
  ((((((s.rtdXfer c.rtdAddrConfig s.cfg).rtdXfer c.rtdAddrConfig s.cfg).rtdXfer c.rtdAddrLftMsb 0x00).rtdXfer
    c.rtdAddrLftLsb 0x00).rtdXfer c.rtdAddrHftMsb 0xFF).rtdXfer c.rtdAddrHftLsb 0xFF).rtdXfer
    c.rtdAddrConfig (s.cfg ||| c.cfgFclear)

/-- What the body of `BEGIN_RTD` leaves where the sub-driver is not active. -/
def State.rtdBegun (s : State) : State := s.rtdReset.rtdWrites.rtdOpened

/-- The two commands that open the RTD sub-driver: the point before its first write, and the `ok` they end with for
the flag that they carry. -/
inductive RtdBody : Instr → Nat → (Bool → Bool) → Prop
  | alone : RtdBody .beginRtd 0 fun _ => true
  | both : RtdBody .beginBoth 1 fun okT => okT

section
variable {i : Instr} {base : Nat} {fin : Bool → Bool} {s u : State} {rx : Word} {flag : Bool}

theorem State.rtdOpen_eq (base : Nat) (flag : Bool) (s : State) :
    s.rtdOpen base flag =
      (s.rtdReset.rtdXfer s.rtdReset.params.rtdAddrConfig s.rtdReset.cfg).goTo (.sent (base + 1) 0 flag) :=
  State.cfgWrite_zero s.rtdReset _

/-- From each point but the last, the body makes its next write. -/
theorem RtdBody.exec_sent (h : RtdBody i base fin) {k : Nat} (hk : 1 ≤ k ∧ k ≤ 6) :
    exec i (s.goTo (.sent (base + k) rx flag)) = .next
      ((s.rtdXfer (s.params.beginRtdWrite s.cfg (k + 1)).1 (s.params.beginRtdWrite s.cfg (k + 1)).2).goTo
        (.sent (base + (k + 1)) 0 flag)) := by
  obtain ⟨hlow, hhigh⟩ := hk
  cases h <;> interval_cases k <;> rfl

/-- From the last point, the body ends. -/
theorem RtdBody.exec_sent_last (h : RtdBody i base fin) :
    exec i (s.goTo (.sent (base + 7) rx flag)) = .next (s.rtdOpened.finish (fin flag)) := by
  cases h <;> rfl

/-- From the first write on, the body makes the other six and ends. -/
theorem RtdBody.engineSteps_begun (h : RtdBody i base fin) (hopen : exec i s = .next (u.rtdOpen base flag)) :
    engineSteps i 8 s = .next (u.rtdBegun.finish (fin flag)) := by
  rw [engineSteps_succ hopen, State.rtdOpen_eq, engineSteps_succ (h.exec_sent (k := 1) (by decide)),
    engineSteps_succ (h.exec_sent (k := 2) (by decide)), engineSteps_succ (h.exec_sent (k := 3) (by decide)),
    engineSteps_succ (h.exec_sent (k := 4) (by decide)), engineSteps_succ (h.exec_sent (k := 5) (by decide)),
    engineSteps_succ (h.exec_sent (k := 6) (by decide)), engineSteps_one, h.exec_sent_last]
  rfl

theorem exec_beginRtd_start (hseq : s.seq = .start) (hrtd : s.rtdActive = false) :
    exec .beginRtd s = .next (s.rtdOpen 0 false) := by
  simp [exec, execBeginRtd, hseq, hrtd]

/-- The acquire of `BEGIN_RTD` looks at the TC sub-driver alone. -/
theorem State.rtdReset_eq (hrtd : s.rtdActive = false) :
    s.rtdReset = { (s.clearMuxUnless s.tcActive true).setCs .rtd .high with cfg := 0x00#8, rtdProbe := .none } := by
  rw [State.rtdReset, State.acquire_eq_clearMuxUnless, hrtd, Bool.or_false]

end

/-- Settles O48: the body is the seven writes behind the acquire and the reset of the mirror. -/
theorem beginRtdCompletes : Obligations.BeginRtdCompletes := by
  intro s hseq hrtd acquired
  have hacquired : acquired = s.clearMuxUnless s.tcActive true := (s.clearMuxUnless_eq s.tcActive true).symm
  clear_value acquired
  subst hacquired
  intro opened w c
  have hstart := exec_beginRtd_start hseq hrtd
  refine ⟨⟨_, hstart⟩, (RtdBody.alone.engineSteps_begun hstart).trans ?_⟩
  have hstrobe : 0x00#8 ||| c.cfgFclear = c.cfgFclear := BitVec.zero_or
  rw [State.rtdBegun, State.rtdReset_eq hrtd, ← hstrobe]
  rfl

section
variable {s : State}

@[simp] theorem State.rtdWrites_status : s.rtdWrites.status = s.status := by simp [State.rtdWrites, State.rtdXfer]
@[simp] theorem State.rtdWrites_tcActive : s.rtdWrites.tcActive = s.tcActive := by
  simp [State.rtdWrites, State.rtdXfer]
@[simp] theorem State.rtdWrites_outCfg : s.rtdWrites.outCfg = s.outCfg := by simp [State.rtdWrites, State.rtdXfer]
@[simp] theorem State.rtdWrites_csTc : s.rtdWrites.csTc = s.csTc := by simp [State.rtdWrites, State.rtdXfer]
@[simp] theorem State.rtdWrites_csRtd : s.rtdWrites.csRtd = .high := rfl
@[simp] theorem State.rtdWrites_cfg : s.rtdWrites.cfg = s.cfg := by simp [State.rtdWrites, State.rtdXfer]
@[simp] theorem State.rtdWrites_rtdProbe : s.rtdWrites.rtdProbe = s.rtdProbe := by
  simp [State.rtdWrites, State.rtdXfer]
@[simp] theorem State.rtdWrites_muxSettings : s.rtdWrites.muxSettings = s.muxSettings := by
  simp [State.rtdWrites, State.rtdXfer]
@[simp] theorem State.rtdWrites_lifecycleKept : s.rtdWrites.lifecycleKept = s.lifecycleKept := by
  simp [State.rtdWrites, State.rtdXfer]
@[simp] theorem spiCount_rtdWrites : spiCount s.rtdWrites.trace = spiCount s.trace + 7 := by
  simp [State.rtdWrites, State.rtdXfer]

@[simp] theorem State.rtdOpened_muxSettings : s.rtdOpened.muxSettings = s.muxSettings := rfl
@[simp] theorem State.rtdOpened_lifecycleKept : s.rtdOpened.lifecycleKept = s.lifecycleKept := rfl

end

/-- `t` is `s` after the body of `BEGIN_RTD` from an inactive sub-driver. -/
structure RtdBegun (s t : State) : Prop where
  status : t.status = s.status
  tcActive : t.tcActive = s.tcActive
  outCfg : t.outCfg = true
  csTc : t.csTc = s.csTc
  mux : t.muxSettings = if s.tcActive then s.muxSettings else clearedSettings
  rtd : t.rtdPart = openedRtd
  count : spiCount t.trace = spiCount s.trace + 7
  kept : t.lifecycleKept = s.lifecycleKept

theorem rtdBegun_of_inactive {s : State} (hrtd : s.rtdActive = false) (hout : s.outCfg = s.tcActive) :
    RtdBegun s s.rtdBegun := by
  rw [State.rtdBegun, State.rtdReset_eq hrtd]
  exact
    { status := by simp
      tcActive := by simp
      outCfg := by simp [hout]
      csTc := by simp
      mux := by
        rw [State.rtdOpened_muxSettings, State.rtdWrites_muxSettings, ← s.clearMuxUnless_muxSettings s.tcActive true]
        rfl
      rtd := by simp [State.rtdPart, openedRtd]
      count := by simp [spiCount]
      kept := by
        rw [State.rtdOpened_lifecycleKept, State.rtdWrites_lifecycleKept]
        rfl }

/-! ### Opening the TC sub-driver (R113) -/

/-- `t` is `s` after the body of `BEGIN_TC` from an inactive sub-driver: `ok` is what the body finishes with, `miso`
the chip's answer. -/
structure TcBegun (ok : Bool) (miso : List Byte) (s t : State) : Prop where
  status : t.status = s.status
  tcActive : t.tcActive = ok
  outCfg : t.outCfg = (ok || s.rtdActive)
  csTc : t.csTc = if ok then .high else .z
  mux : t.muxSettings = if s.rtdActive then s.muxSettings else clearedSettings
  rtd : t.rtdPart = s.rtdPart
  spi : ∃ es, t.trace = s.trace ++ es ∧ spiOnly es = [.spi .tc s.params.readSensorMosi miso]
  kept : t.lifecycleKept = s.lifecycleKept

section
variable {s : State} {m0 m1 m2 m3 : Byte} {raw : Word} {flag : Bool}

/-- The raw read, behind an acquire that looks at the RTD sub-driver alone. -/
theorem State.tcOpen_eq (htc : s.tcActive = false) (hmiso : s.miso 4 = [m0, m1, m2, m3]) :
    s.tcOpen = ((s.clearMuxUnless s.rtdActive true).setCs .tc .high).send .tc s.params.readSensorMosi
      (.sent 1 (m0 ++ m1 ++ m2 ++ m3) false) := by
  have hacquire : s.acquire = s.clearMuxUnless s.rtdActive true := by
    rw [State.acquire_eq_clearMuxUnless, htc, Bool.false_or]
  rw [State.tcOpen, hacquire]
  exact State.recv_sensor (s := (s.clearMuxUnless s.rtdActive true).setCs .tc .high) hmiso 1 false

theorem State.tcOpened_of_present (h : s.params.tcPresent raw = true) :
    s.tcOpened raw = { s with tcActive := true } := if_pos h

/-- For the absent word an inactive sub-driver is torn down. -/
theorem State.tcOpened_of_absent (htc : s.tcActive = false) (hout : s.outCfg = true)
    (h : s.params.tcPresent raw = false) :
    s.tcOpened raw = (s.setCs .tc .z).clearMuxUnless s.rtdActive false := by
  have hrelease : s.tcOpened raw = (s.setCs .tc .z).release := if_neg (h ▸ Bool.false_ne_true)
  rw [hrelease, State.release_eq_clearMuxUnless]
  simp [htc, hout]

theorem tcBegun_of_inactive (htc : s.tcActive = false) (hout : s.outCfg = s.rtdActive)
    (hmiso : s.miso 4 = [m0, m1, m2, m3]) (raw : Word) :
    TcBegun (s.params.tcPresent raw) [m0, m1, m2, m3] s (s.tcOpen.tcOpened raw) := by
  have hopen := State.tcOpen_eq htc hmiso
  have hparams : s.tcOpen.params = s.params := by simp [hopen]
  have hspi : ∀ es, spiOnly es = [] → ∃ es', s.tcOpen.trace ++ es = s.trace ++ es' ∧
      spiOnly es' = [.spi .tc s.params.readSensorMosi [m0, m1, m2, m3]] := by
    intro es hes
    have hlength : s.params.readSensorMosi.length = 4 := rfl
    simp [hopen, hlength, hmiso, hes, spiOnly]
  cases hpresent : s.params.tcPresent raw with
  | true =>
    rw [State.tcOpened_of_present (hparams ▸ hpresent)]
    exact
      { status := by simp [hopen]
        tcActive := rfl
        outCfg := by simp [hopen, hout]
        csTc := by simp [hopen]
        mux := (by simp [hopen] : s.tcOpen.muxSettings = _)
        rtd := (by simp [hopen] : s.tcOpen.rtdPart = _)
        spi := by simpa using hspi [] rfl
        kept := (by simp [hopen] : s.tcOpen.lifecycleKept = _) }
  | false =>
    rw [State.tcOpened_of_absent (by simp [hopen, htc]) (by simp [hopen, hout]) (hparams ▸ hpresent)]
    exact
      { status := by simp [hopen]
        tcActive := by simp [hopen, htc]
        outCfg := by simp [hopen, hout]
        csTc := by simp
        mux := by cases hrtd : s.rtdActive <;> simp [hopen, hrtd]
        rtd := by simp [hopen]
        spi := by simpa using hspi (.pin (csPin .tc) .z :: clearEvents s.tcOpen.rtdActive) (by simp [spiOnly])
        kept := by simp [hopen] }

theorem exec_beginTc_start (hseq : s.seq = .start) (htc : s.tcActive = false) :
    exec .beginTc s = .next s.tcOpen := by
  simp [exec, execBeginTc, hseq, htc]

theorem exec_beginTc_sent (hseq : s.seq = .sent 1 raw flag) :
    exec .beginTc s = .next ((s.tcOpened raw).finish (s.params.tcPresent raw)) := by
  simp only [exec, execBeginTc, hseq]

end

/-- Settles O47: the body is the raw read and, by its word, the sub-driver opened or torn down. -/
theorem beginTcCompletes : Obligations.BeginTcCompletes := by
  intro s m0 m1 m2 m3 hseq htc hout hmiso
  have hopen := State.tcOpen_eq htc hmiso
  have hbegun := tcBegun_of_inactive htc hout hmiso (m0 ++ m1 ++ m2 ++ m3)
  have hend := exec_beginTc_sent (s := s.tcOpen) (by rw [hopen, State.send_seq])
  have hparams : s.tcOpen.params = s.params := by simp [hopen]
  rw [hparams] at hend
  have hstatus := congrArg (Status.finish (s.params.tcPresent (m0 ++ m1 ++ m2 ++ m3))) hbegun.status
  obtain ⟨hsel, hroute, hcur, hcache, hstate, hts⟩ := State.muxSettings_fields hbegun.mux
  exact ⟨_, _, exec_beginTc_start hseq htc, hend, rfl, hstatus, hbegun.tcActive, hbegun.outCfg, hbegun.csTc,
    hsel, hroute, hcur, hcache, hstate, hts, hbegun.spi,
    State.eq_of_lifecycleKept_rtdPart hbegun.kept hbegun.rtd⟩

end Sys2Proof.Machine
end

section
open Sys2Proof Sys2Proof.Machine
namespace Sys2Proof.Machine

/-! ### `BEGIN` (R115) -/

/-- `t` is `s` after the two bodies of `BEGIN`, with `n` transactions: the TC sub-driver is open if it was or if the
chip is `present`, the RTD sub-driver and the shared outputs are. -/
structure BothBegun (present : Bool) (n : Nat) (s t : State) : Prop where
  status : t.status = s.status
  tcActive : t.tcActive = (s.tcActive || present)
  outCfg : t.outCfg = true
  csTc : t.csTc = if s.tcActive then s.csTc else if present then .high else .z
  mux : t.muxSettings = if s.outCfg then s.muxSettings else clearedSettings
  rtd : t.rtdPart = if s.rtdActive then s.rtdPart else openedRtd
  count : spiCount t.trace = spiCount s.trace + n
  kept : t.lifecycleKept = s.lifecycleKept

section
variable {s t u : State} {ok : Bool} {miso : List Byte}

theorem BothBegun.rtdActive {present : Bool} {n : Nat} (h : BothBegun present n s t) : t.rtdActive = true := by
  have hrtd : t.rtdActive = (if s.rtdActive then s.rtdPart else openedRtd).1 := congrArg Prod.fst h.rtd
  cases hs : s.rtdActive with
  | true => rw [hrtd, hs, if_pos rfl]; exact hs
  | false => rw [hrtd, hs]; rfl

theorem TcBegun.rtdActive (h : TcBegun ok miso s u) : u.rtdActive = s.rtdActive := congrArg Prod.fst h.rtd

theorem TcBegun.count (h : TcBegun ok miso s u) : spiCount u.trace = spiCount s.trace + 1 := by
  obtain ⟨es, htrace, hspi⟩ := h.spi
  rw [htrace, spiCount_append, spiCount_eq_length es, hspi, List.length_singleton]

/-- With the TC sub-driver active, `BEGIN` is the body of `BEGIN_RTD`. -/
theorem RtdBegun.bothBegun (h : RtdBegun s t) (htc : s.tcActive = true) (hrtd : s.rtdActive = false)
    (hout : s.outCfg = true) (present : Bool) : BothBegun present 7 s t where
  status := h.status
  tcActive := by rw [h.tcActive, htc, Bool.true_or]
  outCfg := h.outCfg
  csTc := by rw [h.csTc, htc, if_pos rfl]
  mux := by rw [h.mux, htc, hout]
  rtd := by rw [h.rtd, hrtd, if_neg Bool.false_ne_true]
  count := h.count
  kept := h.kept

/-- With the RTD sub-driver active, it is the body of `BEGIN_TC`. -/
theorem TcBegun.bothBegun (h : TcBegun ok miso s t) (htc : s.tcActive = false) (hrtd : s.rtdActive = true)
    (hout : s.outCfg = true) : BothBegun ok 1 s t where
  status := h.status
  tcActive := by rw [h.tcActive, htc, Bool.false_or]
  outCfg := by rw [h.outCfg, hrtd, Bool.or_true]
  csTc := by rw [h.csTc, htc, if_neg Bool.false_ne_true]
  mux := by rw [h.mux, hrtd, hout]
  rtd := by rw [h.rtd, hrtd, if_pos rfl]
  count := h.count
  kept := h.kept

/-- With neither, it is the one and then the other: a multiplexer cleared by the first stays so. -/
theorem TcBegun.trans_rtdBegun (h : TcBegun ok miso s u) (h' : RtdBegun u t) (htc : s.tcActive = false)
    (hrtd : s.rtdActive = false) (hout : s.outCfg = false) : BothBegun ok 8 s t where
  status := h'.status.trans h.status
  tcActive := by rw [h'.tcActive, h.tcActive, htc, Bool.false_or]
  outCfg := h'.outCfg
  csTc := by rw [h'.csTc, h.csTc, htc, if_neg Bool.false_ne_true]
  mux := by rw [h'.mux, h.mux, hrtd, hout, if_neg Bool.false_ne_true, ite_self]
  rtd := by rw [h'.rtd, hrtd, if_neg Bool.false_ne_true]
  count := by rw [h'.count, h.count]
  kept := h'.kept.trans h.kept

end

section
variable {s : State} {raw : Word} {flag : Bool}

theorem exec_beginBoth_start_tcActive (hseq : s.seq = .start) (htc : s.tcActive = true) :
    exec .beginBoth s = .next (s.beginRtdPart true) := by
  simp [exec, execBeginBoth, hseq, htc]

theorem exec_beginBoth_start (hseq : s.seq = .start) (htc : s.tcActive = false) :
    exec .beginBoth s = .next s.tcOpen := by
  simp [exec, execBeginBoth, hseq, htc]

theorem exec_beginBoth_sent_one (hseq : s.seq = .sent 1 raw flag) :
    exec .beginBoth s = .next ((s.tcOpened raw).beginRtdPart (s.params.tcPresent raw)) := by
  simp only [exec, execBeginBoth, hseq]

theorem State.beginRtdPart_of_active (hrtd : s.rtdActive = true) (okT : Bool) :
    s.beginRtdPart okT = s.finish okT := if_pos hrtd

theorem State.beginRtdPart_of_inactive (hrtd : s.rtdActive = false) (okT : Bool) :
    s.beginRtdPart okT = s.rtdOpen 1 okT := if_neg (hrtd ▸ Bool.false_ne_true)

/-- `BEGIN` from each set of active sub-drivers but the full one, with its number of steps. -/
theorem exists_bothBegun {m0 m1 m2 m3 : Byte} (hseq : s.seq = .start) (hout : s.outCfg = (s.tcActive || s.rtdActive))
    (hmiso : s.miso 4 = [m0, m1, m2, m3]) (hnot : (s.tcActive && s.rtdActive) = false) :
    let present := s.params.tcPresent (m0 ++ m1 ++ m2 ++ m3)
    let n : Nat := if s.tcActive then 7 else if s.rtdActive then 1 else 8
    (∃ u, exec .beginBoth s = .next u) ∧
    ∃ t, engineSteps .beginBoth (n + 1) s = .next (t.finish (s.tcActive || present)) ∧ BothBegun present n s t := by
  intro present n
  cases htc : s.tcActive with
  | true =>
    have hrtd : s.rtdActive = false := by simpa [htc] using hnot
    have hout' : s.outCfg = true := by simp [hout, htc]
    have hstart := exec_beginBoth_start_tcActive hseq htc
    rw [State.beginRtdPart_of_inactive hrtd] at hstart
    have hbegun := (rtdBegun_of_inactive hrtd (hout'.trans htc.symm)).bothBegun htc hrtd hout' present
    have hn : n = 7 := if_pos htc
    rw [hn]
    exact ⟨⟨_, hstart⟩, _, RtdBody.both.engineSteps_begun hstart, hbegun⟩
  | false =>
    have hout' : s.outCfg = s.rtdActive := by simp [hout, htc]
    have hopen := State.tcOpen_eq htc hmiso
    have hparams : s.tcOpen.params = s.params := by simp [hopen]
    have hstart := exec_beginBoth_start hseq htc
    have hopened := exec_beginBoth_sent_one (s := s.tcOpen) (by rw [hopen, State.send_seq])
    have hbegun := tcBegun_of_inactive htc hout' hmiso (m0 ++ m1 ++ m2 ++ m3)
    rw [hparams] at hopened
    cases hrtd : s.rtdActive with
    | true =>
      have hn : n = 1 := by simp [n, htc, hrtd]
      rw [State.beginRtdPart_of_active (hbegun.rtdActive.trans hrtd)] at hopened
      rw [hn]
      exact ⟨⟨_, hstart⟩, _, engineSteps_two hstart hopened, hbegun.bothBegun htc hrtd (hout'.trans hrtd)⟩
    | false =>
      have hn : n = 8 := by simp [n, htc, hrtd]
      have hinactive := hbegun.rtdActive.trans hrtd
      have hhandle : (s.tcOpen.tcOpened (m0 ++ m1 ++ m2 ++ m3)).outCfg =
          (s.tcOpen.tcOpened (m0 ++ m1 ++ m2 ++ m3)).tcActive := by
        rw [hbegun.outCfg, hbegun.tcActive, hrtd, Bool.or_false]
      rw [State.beginRtdPart_of_inactive hinactive] at hopened
      have hrow := (engineSteps_succ hstart).trans (RtdBody.both.engineSteps_begun hopened)
      rw [hn]
      exact ⟨⟨_, hstart⟩, _, hrow,
        hbegun.trans_rtdBegun (rtdBegun_of_inactive hinactive hhandle) htc hrtd (hout'.trans hrtd)⟩

end

/-- Settles O49: whichever bodies run, what they leave is `BothBegun`. -/
theorem beginBothCompletes : Obligations.BeginBothCompletes := by
  intro s m0 m1 m2 m3 hseq hout hmiso hnot present steps
  obtain ⟨hstart, t, hrow, h⟩ := exists_bothBegun hseq hout hmiso hnot
  have hn : (if s.tcActive then 7 else if s.rtdActive then 1 else 8) = steps - 1 := by
    simp only [steps]; split_ifs <;> rfl
  have hsteps : steps - 1 + 1 = steps := by simp only [steps]; split_ifs <;> rfl
  rw [hn] at hrow h
  rw [hsteps] at hrow
  have hstatus := congrArg (Status.finish (s.tcActive || present)) h.status
  obtain ⟨hsel, hroute, hcur, hcache, hstate, hts⟩ := State.muxSettings_fields h.mux
  refine ⟨hstart, _, hrow, rfl, hstatus, h.tcActive, h.rtdActive, h.outCfg,
    fun htc => h.csTc.trans (if_neg (htc ▸ Bool.false_ne_true)), fun hrtd => ?_, fun htc => h.csTc.trans (if_pos htc),
    fun hrtd => ?_, hsel, hroute, hcur, hcache, hstate, hts, h.count, State.eq_of_lifecycleKept h.kept⟩
  · exact State.rtdPart_openedRtd (h.rtd.trans (if_neg (hrtd ▸ Bool.false_ne_true)))
  · exact State.rtdPart_fields (h.rtd.trans (if_pos hrtd))

/-- Settles O50: an active sub-driver's body is its end. -/
theorem beginIsIdempotent : Obligations.BeginIsIdempotent := by
  intro s hseq ended
  refine ⟨fun htc => ?_, fun hrtd => ?_, fun htc hrtd => ?_⟩
  · simp only [exec, execBeginTc, hseq, htc, if_true]; rfl
  · simp only [exec, execBeginRtd, hseq, hrtd, if_true]; rfl
  · rw [exec_beginBoth_start_tcActive hseq htc, State.beginRtdPart_of_active hrtd]; rfl

end Sys2Proof.Machine
end

section
open Sys2Proof Sys2Proof.Machine
namespace Sys2Proof

/-! ### Rounding sees the exact value only (00_scope.md R11) -/

/-- A common factor `2^j` of the integer and the place it is cut at changes nothing. -/
theorem Fp.shiftRne_mul_two_pow (m k j : Nat) : Fp.shiftRne (m * 2 ^ j) (k + j) = Fp.shiftRne m k := by
  have hpos := Nat.two_pow_pos j
  have htwice : 2 * (m % 2 ^ k * 2 ^ j) = 2 * (m % 2 ^ k) * 2 ^ j := (Nat.mul_assoc ..).symm
  simp only [Fp.shiftRne, pow_add, Nat.mul_div_mul_right _ _ hpos, Nat.mul_mod_mul_right, htwice,
    Nat.mul_lt_mul_right hpos, Nat.mul_left_inj hpos.ne']

theorem Fp.shiftRne_zero (m : Nat) : Fp.shiftRne m 0 = m := by
  simp [Fp.shiftRne, Nat.mod_one]

/-- An integer with the factor `2^j` is not rounded above the place `2^j`. -/
theorem Fp.shiftRne_mul_two_pow_of_le (m : Nat) {k j : Nat} (h : k ≤ j) :
    Fp.shiftRne (m * 2 ^ j) k = m * 2 ^ (j - k) := by
  have hsplit : m * 2 ^ j = m * 2 ^ (j - k) * 2 ^ k := by rw [Nat.mul_assoc, ← pow_add, Nat.sub_add_cancel h]
  have hcut := Fp.shiftRne_mul_two_pow (m * 2 ^ (j - k)) 0 k
  rwa [Nat.zero_add, Fp.shiftRne_zero, ← hsplit] at hcut

/-- A factor `2^j` may stand in the integer or in the exponent. -/
theorem Fp.round_mul_two_pow (neg : Bool) (m j : Nat) (e : Int) :
    Fp.round neg (m * 2 ^ j) e = Fp.round neg m (e + j) := by
  by_cases hm : m = 0
  · simp [Fp.round, hm]
  have hprod : m * 2 ^ j ≠ 0 := Nat.mul_ne_zero hm (Nat.two_pow_pos j).ne'
  have hlog : (m * 2 ^ j).log2 = m.log2 + j :=
    (Nat.log2_eq_iff hprod).mpr (by simpa only [Nat.add_right_comm] using Fp.two_pow_log2_le hm j)
  have hplace : ((m.log2 + j : Nat) : Int) + e - 23 = m.log2 + (e + j) - 23 := by omega
  simp only [Fp.round, if_neg hm, if_neg hprod, hlog, hplace]
  generalize max ((m.log2 : Int) + (e + j) - 23) (-149) = q
  congr 3
  obtain hle | ⟨hlt, hle⟩ | hlt : q ≤ e ∨ (e < q ∧ q ≤ e + j) ∨ e + j < q := by omega
  · have hexp : (e + j - q).toNat = j + (e - q).toNat := by omega
    rw [if_pos hle, if_pos (by omega), hexp, pow_add, Nat.mul_assoc]
  · have hexp : (e + j - q).toNat = j - (q - e).toNat := by omega
    rw [if_neg (by omega), if_pos hle, hexp, Fp.shiftRne_mul_two_pow_of_le m (by omega)]
  · have hexp : (q - e).toNat = (q - (e + j)).toNat + j := by omega
    rw [if_neg (by omega), if_neg (by omega), hexp, Fp.shiftRne_mul_two_pow]

/-- Two ways to write one value round to one pattern. -/
theorem Fp.round_congr (neg : Bool) {m n i j : Nat} {e f : Int} (hvalue : m * 2 ^ i = n * 2 ^ j)
    (hplace : e - i = f - j) : Fp.round neg m e = Fp.round neg n f :=
  calc Fp.round neg m e = Fp.round neg (m * 2 ^ i) (e - i) := by rw [Fp.round_mul_two_pow, sub_add_cancel]
    _ = Fp.round neg (n * 2 ^ j) (f - j) := by rw [hvalue, hplace]
    _ = Fp.round neg n f := by rw [Fp.round_mul_two_pow, sub_add_cancel]

theorem Fp.signed_false (m j : Nat) : Fp.signed false m j = ((m * 2 ^ j : Nat) : Int) := rfl

theorem Fp.zero_false : Fp.zero false = 0x00000000#32 := by decide

/-- A number of at most 24 bits over a place in range is held as it is. -/
theorem Fp.exists_unpack_round {n : Nat} {e : Int} (hn : n < 2 ^ 24) (hlow : 0 ≤ e + 149) (hhigh : e ≤ 103) :
    ∃ m f, (Fp.round false n e).unpack = .fin false m f ∧ 0 ≤ f + 149 ∧
      m * 2 ^ (f + 149).toNat = n * 2 ^ (e + 149).toNat := by
  have hscaled : (Fp.round false n e).scaled = some (n * 2 ^ (e + 149).toNat) :=
    Fp.scaled_round_of_exact (k := 0) (c := n) (by simpa using hlow) hn (by omega) (by simp [Fp.signed_false])
  obtain ⟨neg, m, f, hunpack, hf, hvalue⟩ := Fp.exists_unpack_of_scaled hscaled
  obtain rfl : neg = false := (Fp.unpack_fin hunpack).1.symm.trans (Fp.round_sign ..)
  refine ⟨m, f, hunpack, hf, ?_⟩
  rw [Fp.signed_false] at hvalue
  exact_mod_cast hvalue.symm

/-- Dividing by a power of two leaves no remainder. -/
theorem Fp.roundQuotient_two_pow (neg : Bool) (m k : Nat) (e : Int) :
    Fp.roundQuotient neg m (2 ^ k) e = Fp.round neg m (e - k) := by
  have hshift : m * 2 ^ (k + 64) = m * 2 ^ 64 * 2 ^ k := by rw [pow_add]; ring
  have hdiv : m * 2 ^ (k + 64) / 2 ^ k = m * 2 ^ 64 := by
    rw [hshift, Nat.mul_div_cancel _ (Nat.two_pow_pos k)]
  have hmod : m * 2 ^ (k + 64) % 2 ^ k = 0 := by rw [hshift, Nat.mul_mod_left]
  simp only [Fp.roundQuotient, Nat.log2_two_pow, hdiv, hmod, if_true]
  refine Fp.round_congr neg (i := 0) (j := 65) (by ring) ?_
  push_cast
  ring

end Sys2Proof
end

section
open Sys2Proof Sys2Proof.Machine
namespace Sys2Proof.Machine

/-! ### The evaluator (45_decode_pipeline.md R120) -/

section
variable {v : Fp} {seg : Segment} {before segs : List Segment}

theorem polyEval_cons_of_gt (h : Fp.gt seg.bound v = true) :
    polyEval (seg :: segs) v =
      if seg.coeffs = [] then Fp.nan else powerSeries v seg.coeffs Rom.one (Fp.zero false) := by
  cases hcoeffs : seg.coeffs <;> simp [polyEval, h, hcoeffs]

theorem polyEval_cons_of_not_gt (h : Fp.gt seg.bound v = false) : polyEval (seg :: segs) v = polyEval segs v := by
  simp [polyEval, h]

/-- Segments whose bound does not exceed the value are passed over. -/
theorem polyEval_append (h : ∀ b ∈ before, Fp.gt b.bound v = false) :
    polyEval (before ++ segs) v = polyEval segs v := by
  induction before with
  | nil => rfl
  | cons b bs ih =>
    obtain ⟨hb, hbs⟩ := List.forall_mem_cons.mp h
    rw [List.cons_append, polyEval_cons_of_not_gt hb, ih hbs]

/-- The power series is the fold over the pair of the sum and the power. -/
theorem powerSeries_eq_foldl (v : Fp) (coeffs : List Fp) (p out : Fp) :
    powerSeries v coeffs p out =
      (coeffs.foldl (fun st c => (Fp.add st.1 (Fp.mul st.2 c), Fp.mul st.2 v)) (out, p)).1 := by
  induction coeffs generalizing p out with
  | nil => rfl
  | cons c cs ih => exact ih ..

end

/-- Settles O53: the segments before are passed over, and the deciding one sums its fold. -/
theorem polyEvalTakesFirstSegment : Obligations.PolyEvalTakesFirstSegment := by
  have hone : Rom.one = 0x3F800000#32 := by decide
  refine ⟨fun before after seg v hbefore hseg => ?_, fun table v htable => ?_⟩
  · rw [polyEval_append hbefore, polyEval_cons_of_gt hseg, powerSeries_eq_foldl, hone, Fp.zero_false]
    rfl
  · rw [← List.append_nil table, polyEval_append htable]
    rfl

/-! ### Resistance and temperature (45_decode_pipeline.md R130, R131) -/

theorem finitePositive_iff {x : Fp} : finitePositive x = true ↔ Fp.gt x 0x00000000#32 = true ∧ x ≠ 0x7F800000#32 := by
  have hinf : Fp.inf false = 0x7F800000#32 := by decide
  simp [finitePositive, Fp.zero_false, hinf]

theorem finitePositive_of_unpack {x : Fp} {m : Nat} {e : Int} (hm : m ≠ 0) (h : x.unpack = .fin false m e) :
    finitePositive x = true := by
  obtain ⟨-, -, hscaled⟩ := Fp.unpack_fin h
  have hvalue : 0 < Fp.signed false m (e + 149).toNat := by
    rw [Fp.signed_false]
    positivity
  refine finitePositive_iff.mpr ⟨?_, ?_⟩
  · rw [(Fp.compare_of_scaled hscaled (show Fp.scaled 0x00000000#32 = some 0 by decide)).1]
    exact decide_eq_true hvalue
  · rintro rfl
    have hinf : Fp.unpack 0x7F800000#32 = .inf false := by decide
    rw [hinf] at h
    cases h

section
variable {c : Params} {raw : Nat} {rref r0 r : Fp}

theorem Params.rtdRes_of_pos (h : finitePositive rref = true) :
    c.rtdRes raw rref = Fp.mul (Fp.div (Fp.ofInt raw) c.rtdFull) rref := if_pos h

theorem Params.rtdRes_of_not_pos (h : finitePositive rref = false) : c.rtdRes raw rref = 0x7FC00000#32 := by
  simp [Params.rtdRes, h, Fp.nan]

/-- The full scale of the spec is `2^15`, so that the quotient is exact. -/
theorem Params.ofInt_div_rtdFull (hfull : c.rtdFull = 0x47000000#32) (hraw : raw < 2 ^ 15) :
    Fp.div (Fp.ofInt raw) c.rtdFull = Fp.round false raw (-15) := by
  have hofInt : Fp.ofInt raw = Fp.round false raw 0 := by
    simp only [Fp.ofInt, Int.natAbs_natCast, decide_eq_false (Int.natCast_nonneg raw).not_gt]
  have hunpackFull : Fp.unpack 0x47000000#32 = .fin false (2 ^ 23) (-8) := by decide
  obtain ⟨m, f, hunpack, hf, hvalue⟩ :=
    Fp.exists_unpack_round (n := raw) (e := 0) (by omega) (by decide) (by decide)
  calc Fp.div (Fp.ofInt raw) c.rtdFull = Fp.roundQuotient false m (2 ^ 23) (f - -8) := by
        simp [hfull, hofInt, Fp.div, hunpack, hunpackFull]
    _ = Fp.round false m (f - -8 - 23) := Fp.roundQuotient_two_pow ..
    _ = Fp.round false raw (-15) := Fp.round_congr false hvalue (by omega)

theorem Params.rtdTemp_of_not_pos (h : finitePositive r0 = false) : c.rtdTemp raw rref r0 = 0x7FC00000#32 := by
  simp [Params.rtdTemp, h, Fp.nan]

theorem Params.rtdTemp_of_nan (hr : (c.rtdRes raw rref).isNaN = true) : c.rtdTemp raw rref r0 = 0x7FC00000#32 := by
  simp [Params.rtdTemp, hr, Fp.nan]

theorem Params.rtdTemp_of_not_ge (hr : c.rtdRes raw rref = r)
    (hdisc : Fp.ge (c.rtdDiscriminant r r0) 0x00000000#32 = false) : c.rtdTemp raw rref r0 = 0x7FC00000#32 := by
  simp [Params.rtdTemp, hr, Fp.zero_false, hdisc, Fp.nan]

/-- Past the three checks the quadratic solution decides between the branches. -/
theorem Params.rtdTemp_of_ge (hr0 : finitePositive r0 = true) (hr : c.rtdRes raw rref = r) (hnum : r.isNaN = false)
    (hdisc : Fp.ge (c.rtdDiscriminant r r0) 0x00000000#32 = true) :
    c.rtdTemp raw rref r0 =
      if Fp.ge (c.rtdQuadratic (c.rtdDiscriminant r r0)) 0x00000000#32 then
        c.rtdQuadratic (c.rtdDiscriminant r r0)
      else c.rtdSubZero r r0 := by
  simp [Params.rtdTemp, hr0, hr, hnum, Fp.zero_false, hdisc]

end

/-- Settles O54: the quotient holds `raw * 2^-15` as it is, and the product rounds its exact value. -/
theorem resistanceRoundedOnce : Obligations.ResistanceRoundedOnce := by
  intro c raw m e rref hfull hraw hm href
  obtain ⟨n, f, hunpack, hf, hvalue⟩ :=
    Fp.exists_unpack_round (n := raw) (e := -15) (by omega) (by decide) (by decide)
  rw [Params.rtdRes_of_pos (finitePositive_of_unpack hm href), Params.ofInt_div_rtdFull hfull hraw]
  calc Fp.mul (Fp.round false raw (-15)) rref = Fp.round false (n * m) (f + e) := by
        simp only [Fp.mul, hunpack, href, Bool.xor_self]
    _ = Fp.round false (raw * m) (e - 15) :=
        Fp.round_congr false (by rw [Nat.mul_right_comm, hvalue, Nat.mul_right_comm]) (by omega)

/-! ### The commands (R121, R132, R133) -/

theorem raw15_eq_mod (w : Word) : raw15 w = w.toNat % 2 ^ 15 := by simp [raw15]

section
variable {s : State}

theorem exec_polyEval_start (hseq : s.seq = .start) (tbl : TableId) :
    exec (.polyEval (.known tbl)) s =
      .next (s.finishWith (polyEval (s.params.table tbl) (Fp.ofBits s.latch.arg0))) := by
  simp only [exec, execPolyEval, hseq]

theorem exec_rtdCalcRes_start (hseq : s.seq = .start) :
    exec .rtdCalcRes s =
      .next (s.finishWith (s.params.rtdRes (raw15 s.latch.arg0) (Fp.ofBits s.latch.arg1))) := by
  simp only [exec, execRtdCalcRes, hseq]

theorem exec_rtdCalcTemp_start (hseq : s.seq = .start) :
    exec .rtdCalcTemp s =
      .next (s.finishWith
        (s.params.rtdTemp (raw15 s.latch.arg0) (Fp.ofBits s.latch.arg1) (Fp.ofBits s.latch.arg2))) := by
  simp only [exec, execRtdCalcTemp, hseq]

end

/-- Settles O52: each command ends with the value of its function, and the function's branches are the cases. -/
theorem pipelineCommandsComplete : Obligations.PipelineCommandsComplete := by
  intro s tbl hseq ended raw table bits rref r0 positive ends r z4 disc t sub
  have hpoly : ends (.polyEval (.known tbl)) (polyEval table (bits s.latch.arg0)) := by
    have htable : s.params.table tbl = table := by cases tbl <;> rfl
    simp only [ends, bits, ← Fp.ofBits_eq, ← htable]
    exact exec_polyEval_start hseq tbl
  have hres {v : Word} (h : s.params.rtdRes raw rref = v) : ends .rtdCalcRes v := by
    simp only [ends, ← h, raw, rref, bits, ← Fp.ofBits_eq, ← raw15_eq_mod]
    exact exec_rtdCalcRes_start hseq
  have htemp {v : Word} (h : s.params.rtdTemp raw rref r0 = v) : ends .rtdCalcTemp v := by
    simp only [ends, ← h, raw, rref, r0, bits, ← Fp.ofBits_eq, ← raw15_eq_mod]
    exact exec_rtdCalcTemp_start hseq
  have hpositive (x : Fp) : ¬ positive x → finitePositive x = false := fun h =>
    Bool.eq_false_iff.mpr fun hx => h (finitePositive_iff.mp hx)
  have hr (h : positive rref) : s.params.rtdRes raw rref = r := Params.rtdRes_of_pos (finitePositive_iff.mpr h)
  have hdisc : s.params.rtdDiscriminant r r0 = disc := by
    simp only [Params.rtdDiscriminant, show Rom.four = 0x40800000#32 by decide]; rfl
  have ht : s.params.rtdQuadratic disc = t := by
    simp only [Params.rtdQuadratic, show Rom.two = 0x40000000#32 by decide]; rfl
  have hsub : s.params.rtdSubZero r r0 = sub := by
    simp only [Params.rtdSubZero, show Rom.hundred = 0x42C80000#32 by decide]; rfl
  refine ⟨hpoly, fun h => ?_, fun h => hres (hr h), fun h => htemp (Params.rtdTemp_of_not_pos (hpositive _ h)),
    fun href hr0 => ?_, by decide⟩
  · have hnan := Params.rtdRes_of_not_pos (c := s.params) (raw := raw) (hpositive _ h)
    exact ⟨hres hnan, htemp (Params.rtdTemp_of_nan (by rw [hnan]; decide))⟩
  · have hbranch (hnum : r.isNaN = false) (hge : Fp.ge disc 0x00000000#32 = true) :
        s.params.rtdTemp raw rref r0 = if Fp.ge t 0x00000000#32 then t else sub := by
      rw [Params.rtdTemp_of_ge (finitePositive_iff.mpr hr0) (hr href) hnum (hdisc ▸ hge), hdisc, ht, hsub]
    refine ⟨?_, fun hnum hge hpos => ?_, fun hnum hge hneg => ?_⟩
    · rintro (hnan | hneg)
      · exact htemp (Params.rtdTemp_of_nan ((hr href).symm ▸ hnan))
      · exact htemp (Params.rtdTemp_of_not_ge (hr href) (hdisc ▸ hneg))
    · exact htemp ((hbranch hnum hge).trans (if_pos hpos))
    · exact htemp ((hbranch hnum hge).trans (if_neg (Bool.eq_false_iff.mp hneg)))

end Sys2Proof.Machine
end

section
open Sys2Proof Sys2Proof.Machine
namespace Sys2Proof.Machine

/-! ### Accesses and opcodes without a meaning (60_exceptions.md R135, R140) -/

/-- An access that is not refused has 4 bytes, is aligned and lies inside the block (R33). -/
theorem of_accessRefusal_eq_none {rst : Bool} {off width : Nat} (h : accessRefusal rst off width = none) :
    width = 4 ∧ off % 4 = 0 ∧ off < 0x40 := by
  unfold accessRefusal at h
  split_ifs at h with hrst hwidth halign hnone
  have hreg : (hostReg off).isSome = true :=
    Option.isSome_iff_ne_none.mpr (by simpa using hnone)
  rw [hostReg_isSome, decide_eq_true_eq] at hreg
  exact ⟨not_not.mp hwidth, hreg⟩

theorem exists_accessRefusal (rst : Bool) {off width : Nat} (h : width ≠ 4 ∨ off % 4 ≠ 0 ∨ 0x40 ≤ off) :
    ∃ why, accessRefusal rst off width = some why := by
  refine Option.ne_none_iff_exists'.mp fun hnone => ?_
  obtain ⟨hwidth, halign, hoff⟩ := of_accessRefusal_eq_none hnone
  omega

theorem hostAccess_read_of_refusal {off width : Nat} {s : State} {why : Refusal}
    (h : accessRefusal s.rst off width = some why) : hostAccess (.read off width) s = .refused why := by
  simp only [hostAccess, h]

theorem hostAccess_write_of_refusal {off width : Nat} {s : State} {why : Refusal}
    (h : accessRefusal s.rst off width = some why) (v : Word) :
    hostAccess (.write off width v) s = .refused why := by
  simp only [hostAccess, h]

/-- Settles O12: such an access has a reason to be refused, whatever it reads or writes. -/
theorem otherAccessesRefused : Obligations.OtherAccessesRefused := by
  intro s off width v h
  obtain ⟨why, hwhy⟩ := exists_accessRefusal s.rst h
  exact ⟨⟨why, hostAccess_read_of_refusal hwhy⟩, why, hostAccess_write_of_refusal hwhy v⟩

/-- While a word that is no command stands latched, the engine's turn fails it (30_encoding.md R53). -/
theorem engineTurn_of_decode_error {s : State} {e : DecodeError} (hrst : s.rst = false) (hbusy : s.status.busy = true)
    (hdec : decode s.latch.cmd = .error e) : engineTurn s = .next (s.fail .illegal) := by
  simp [engineTurn, State.fetchWord, hrst, hbusy, hdec]

/-- The opcodes of R52 are those outside the ranges of R135. -/
theorem exists_decode_error_iff (w : Word) :
    (∃ e, decode w = .error e) ↔
      ((0x05 ≤ (opcOf w).toNat ∧ (opcOf w).toNat ≤ 0x0F) ∨ (0x1B ≤ (opcOf w).toNat ∧ (opcOf w).toNat ≤ 0x1F) ∨
        (0x28 ≤ (opcOf w).toNat ∧ (opcOf w).toNat ≤ 0x2F) ∨ (0x32 ≤ (opcOf w).toNat ∧ (opcOf w).toNat ≤ 0x3F) ∨
        (0x46 ≤ (opcOf w).toNat ∧ (opcOf w).toNat ≤ 0x4F) ∨ 0x53 ≤ (opcOf w).toNat) := by
  unfold decode
  generalize (opcOf w).toNat = n
  split
  case h_36 =>
    simp only [imp_false] at *
    exact ⟨fun _ => by omega, fun _ => ⟨_, rfl⟩⟩
  all_goals simp

/-- Settles O4: acceptance sets `BUSY` and latches the word, and the engine's turn then fails it. -/
theorem unassignedOpcodeFails : Obligations.UnassignedOpcodeFails := by
  refine ⟨exists_decode_error_iff, fun s w e hidle hrst hdec => ⟨?_, ?_⟩⟩
  · rw [takeTurn_write (r := .cmd) hrst rfl]
    exact congrArg Host.Outcome.next (State.writeCmd_of_idle hidle w)
  · exact engineTurn_of_decode_error (s := s.accept w) hrst rfl hdec

/-! ### Reset and the idle engine (70_reset_and_hazards.md R152, R153) -/

theorem engineTurn_of_idle {s : State} (h : s.rst = true ∨ s.status.busy = false) : engineTurn s = .next s := by
  obtain h | h := h <;> simp [engineTurn, h]

/-- Settles O14: the state after assertion holds `RST`, which stops the engine and refuses the host. -/
theorem resetAndIdle : Obligations.ResetAndIdle := by
  refine ⟨fun s hidle => engineTurn_of_idle (.inr hidle), fun s => ⟨s.assertReset, rfl, rfl, ?_, ?_, ?_, rfl⟩⟩
  · exact fun x hrst => engineTurn_of_idle (.inl hrst)
  · exact fun off width => hostAccess_read_of_refusal (s := s.assertReset) (off := off) (width := width) rfl
  · exact fun off width v => hostAccess_write_of_refusal (s := s.assertReset) (off := off) (width := width) rfl v

/-! ### The overrun flag (60_exceptions.md R139) -/

/-- A write clears `OVR` only by bit 8 of a word for `STATUS` (R16), and sets it only by a word for `CMD` that is
dropped. -/
theorem State.hostWrite_ovr (r : HostReg) (v : Word) (s : State) :
    (s.hostWrite r v).status.ovr = s.status.ovr ∨
    (r = .cmd ∧ s.status.busy = true ∧ s.hostWrite r v = { s with status := s.status.overrun }) ∨
    (r = .status ∧ v.getLsbD 8 = true ∧ (s.hostWrite r v).status.ovr = false) := by
  cases r with
  | cmd =>
    change (s.writeCmd v).status.ovr = _ ∨ _
    cases hbusy : s.status.busy with
    | false => exact .inl (by rw [State.writeCmd_of_idle hbusy]; rfl)
    | true => exact .inr (.inl ⟨rfl, rfl, State.writeCmd_of_busy hbusy v⟩)
  | status =>
    cases hbit : v.getLsbD 8 with
    | false => exact .inl ((congrArg (s.status.ovr && !·) hbit).trans (Bool.and_true _))
    | true => exact .inr (.inr ⟨rfl, rfl, (congrArg (s.status.ovr && !·) hbit).trans (Bool.and_false _)⟩)
  | _ => exact .inl rfl

/-- The turns that can change `OVR`: a `CMD` write that is dropped, a `STATUS` write with bit 8 set, and reset. -/
inductive OvrChange (s t : State) : Turn → Prop
  | dropped (w : Word) (hbusy : s.status.busy = true) (ht : t = { s with status := s.status.overrun }) :
      OvrChange s t (.host (.write 0x00 4 w))
  | cleared {v : Word} (hbit : v.getLsbD 8 = true) (h : t.status.ovr = false) : OvrChange s t (.host (.write 0x04 4 v))
  | reset (h : t.status.ovr = false) : OvrChange s t (.reset true)

section
variable {s t : State}

theorem engineTurn_ovr (h : engineTurn s = .next t) : t.status.ovr = s.status.ovr := by
  obtain ⟨-, heq⟩ | ⟨-, -, i, -, heq⟩ | ⟨-, -, e, -, heq⟩ := engineTurn_cases s <;> rw [heq] at h
  · cases h; rfl
  · exact (stepped_of_exec h).ovr
  · cases h; rfl

theorem hostWaitDone_status (h : hostWaitDone s = .next t) : t.status = s.status := by
  unfold hostWaitDone at h
  split_ifs at h <;> cases h <;> rfl

theorem hostPollOk_status {w : Word} (h : hostPollOk w s = .next t) : t.status = s.status := by
  unfold hostPollOk at h
  split_ifs at h <;> cases h <;> rfl

/-- Where `CMD` and `STATUS` stand (20_memory.md R32). -/
theorem hostReg_offset {off : Nat} {r : HostReg} (h : hostReg off = some r) :
    (r = .cmd → off = 0x00) ∧ (r = .status → off = 0x04) := by
  unfold hostReg at h
  split at h <;> cases h <;> simp

theorem hostAccess_ovr {op : HostOp} (h : hostAccess op s = .next t) :
    t.status.ovr = s.status.ovr ∨ OvrChange s t (.host op) := by
  unfold hostAccess at h
  cases op with
  | read off width =>
    dsimp only at h
    split at h <;> cases h
    exact .inl rfl
  | write off width v =>
    dsimp only at h
    split at h <;> cases h
    next r hrefusal hreg =>
      obtain ⟨rfl, -, -⟩ := of_accessRefusal_eq_none hrefusal
      obtain ⟨hcmd, hstatus⟩ := hostReg_offset hreg
      obtain hkept | ⟨hr, hbusy, heq⟩ | ⟨hr, hbit, hclear⟩ := s.hostWrite_ovr r v
      · exact .inl hkept
      · obtain rfl := hcmd hr
        exact .inr (.dropped v hbusy heq)
      · obtain rfl := hstatus hr
        exact .inr (.cleared hbit hclear)

theorem takeTurn_ovr {turn : Turn} (h : takeTurn turn s = .next t) :
    t.status.ovr = s.status.ovr ∨ OvrChange s t turn := by
  cases turn with
  | engine => exact .inl (engineTurn_ovr h)
  | clock => cases h; exact .inl rfl
  | host op => exact hostAccess_ovr h
  | board level => cases h; exact .inl rfl
  | reset asserted =>
    cases h
    cases asserted with
    | false => exact .inl rfl
    | true => exact .inr (.reset rfl)
  | waitDone => exact .inl (congrArg Status.ovr (hostWaitDone_status h))
  | pollOk w => exact .inl (congrArg Status.ovr (hostPollOk_status h))

/-- The default turn is the engine's or the clock's, so that only a turn of the script changes `OVR`. -/
theorem step_ovr (h : step s = .next t) :
    t.status.ovr = s.status.ovr ∨ ∃ turn ts, s.turns = turn :: ts ∧ OvrChange { s with turns := ts } t turn := by
  obtain ⟨-, heq⟩ | ⟨turn, ts, hturns, heq⟩ := step_eq s <;> rw [heq] at h
  · unfold State.defaultTurn at h
    split at h
    · exact .inl (engineTurn_ovr h)
    · cases h; exact .inl rfl
  · exact (takeTurn_ovr h).imp_right fun hchange => ⟨turn, ts, hturns, hchange⟩

end

/-- Settles O8: an `OVR` that changed was changed by the script's turn, and `OvrChange` says by which one. -/
theorem overrunIsSticky : Obligations.OverrunIsSticky := by
  refine ⟨fun s w ts hrst hbusy hturns => ?_, fun s t h => ?_⟩
  · obtain ⟨-, hcmd⟩ := cmdSubmission
    obtain ⟨-, -, hdropped⟩ := hcmd { s with turns := ts } w hrst
    rw [step_of_turns_cons hturns, hdropped hbusy]
  · obtain hkept | ⟨turn, ts, hturns, hchange⟩ := step_ovr h
    · exact ⟨fun hclear hset => absurd (hkept.symm.trans hset) (by simp [hclear]),
        fun hset hclear => absurd (hkept.symm.trans hclear) (by simp [hset])⟩
    · cases hchange with
      | dropped w hbusy ht =>
        subst ht
        exact ⟨fun _ _ => ⟨hbusy, w, ts, hturns, rfl⟩, nofun⟩
      | cleared hbit hclear =>
        exact ⟨fun _ hset => absurd hset (by simp [hclear]), fun _ _ => .inl ⟨_, ts, hturns, hbit⟩⟩
      | reset hclear => exact ⟨fun _ hset => absurd hset (by simp [hclear]), fun _ _ => .inr ⟨ts, hturns⟩⟩

end Sys2Proof.Machine
end

section
open Sys2Proof Sys2Proof.Machine
namespace Sys2Proof.Machine

/-! ### The error bits at the start of a command (60_exceptions.md R134 to R138) -/

/-- The error bits of `STATUS`. -/
def Status.errors (st : Status) : Bool × Bool × Bool := (st.errIllegal, st.errArg, st.errInactive)

@[simp] theorem Status.errors_finish (st : Status) (ok : Bool) : (st.finish ok).errors = st.errors := rfl

/-- What the checks of R138 leave of an engine step of `i`: at the start one of the two errors, in their priority; and
where none is due, as past the start, a step that sets no error bit. -/
inductive Checked (i : Instr) (s : State) : Outcome → Prop
  | arg (hseq : s.seq = .start) (hbad : badOperand i = true) : Checked i s (.next (s.fail .arg))
  | inactive (hseq : s.seq = .start) (hgood : badOperand i = false) (hlacks : s.lacks i = true) :
      Checked i s (.next (s.fail .inactive))
  | passed {t : State} (hgood : badOperand i = false) (hhas : s.lacks i = false)
      (herrors : t.status.errors = s.status.errors) : Checked i s (.next t)
  | later {t : State} (herrors : t.status.errors = s.status.errors) (hseq : s.seq ≠ .start := by simp [*]) :
      Checked i s (.next t)
  | lost (hseq : s.seq ≠ .start) : Checked i s (.fault .sequencerLost)

section
variable {i : Instr} {s t u : State} {chip : Chip}

theorem State.lacks_of_needs_none (h : needs i = none) (s : State) : s.lacks i = false := by
  simp [State.lacks, h]

theorem State.lacks_of_needs (h : needs i = some chip) (s : State) : s.lacks i = !s.chipActive chip := by
  cases chip <;> simp [State.lacks, State.chipActive, h]

theorem Checked.of_needs_none (hgood : badOperand i = false) (hneeds : needs i = none)
    (herrors : t.status.errors = s.status.errors) : Checked i s (.next t) :=
  .passed hgood (s.lacks_of_needs_none hneeds) herrors

/-- The activity check of a command that needs a chip's sub-driver (R137). -/
theorem Checked.ifActive (chip : Chip) (hseq : s.seq = .start) (hgood : badOperand i = false)
    (hneeds : needs i = some chip) (herrors : t.status.errors = s.status.errors) :
    Checked i s (if s.chipActive chip then .next t else .next (s.fail .inactive)) := by
  have hlacks := s.lacks_of_needs hneeds
  split
  · next hactive => exact .passed hgood (by simp [hlacks, hactive]) herrors
  · next hactive => exact .inactive hseq hgood (by simp [hlacks, hactive])

theorem Checked.whenElapsed {t0 : Word} {d : Nat} (herrors : t.status.errors = s.status.errors)
    (hseq : s.seq ≠ .start := by simp [*]) : Checked i s (whenElapsed t0 d s t) := by
  unfold Machine.whenElapsed
  split
  · exact .later herrors
  · exact .later rfl

end

/-! ### Operations of the bodies that leave the error bits -/

section
variable (s : State)

theorem State.waitThen_errors (label d : Nat) (flag : Bool) (go : State)
    (h : go.status.errors = s.status.errors) : (s.waitThen label d flag go).status.errors = s.status.errors := by
  obtain ⟨-, heq⟩ | ⟨-, heq⟩ := s.waitThen_cases label d flag go <;> simp [heq, h]

@[simp] theorem State.acquire_status : s.acquire.status = s.status := by
  rw [State.acquire_eq]; split <;> rfl

@[simp] theorem State.release_status : s.release.status = s.status := by
  rw [State.release_eq]; split <;> rfl

@[simp] theorem State.tcOpen_status : s.tcOpen.status = s.status := by simp [State.tcOpen]

@[simp] theorem State.tcOpened_status (raw : Word) : (s.tcOpened raw).status = s.status := by
  unfold State.tcOpened; split <;> simp

@[simp] theorem State.rtdOpen_status (base : Nat) (flag : Bool) : (s.rtdOpen base flag).status = s.status := by
  simp [State.rtdOpen]

@[simp] theorem State.rtdOpenWrite_status (base k : Nat) (flag : Bool) :
    (s.rtdOpenWrite base k flag).status = s.status := by
  simp [State.rtdOpenWrite]

@[simp] theorem State.beginRtdPart_errors (okT : Bool) :
    (s.beginRtdPart okT).status.errors = s.status.errors := by
  unfold State.beginRtdPart; split <;> simp

@[simp] theorem State.tcClose_status : s.tcClose.status = s.status := by
  unfold State.tcClose; split <;> simp

@[simp] theorem State.rtdClose_status : s.rtdClose.status = s.status := by
  unfold State.rtdClose; split <;> simp

@[simp] theorem State.readSample_status (label : Nat) (flag : Bool) : (s.readSample label flag).status = s.status := by
  simp [State.readSample]

@[simp] theorem State.rtdDeliver_errors (rx : Word) : (s.rtdDeliver rx).status.errors = s.status.errors := rfl

@[simp] theorem State.tcReading_errors (raw : Word) (value : Option Fp) :
    (s.tcReading raw value).status.errors = s.status.errors := by
  obtain ⟨-, heq⟩ | ⟨-, -, heq⟩ | ⟨v, -, -, heq⟩ := s.tcReading_cases raw value <;> simp [heq]

@[simp] theorem State.muxSelEnd_errors (fam : Family) : (s.muxSelEnd fam).status.errors = s.status.errors := by
  obtain ⟨-, heq⟩ | ⟨-, -, heq⟩ | ⟨-, -, heq⟩ := s.muxSelEnd_cases fam <;> simp [heq]

@[simp] theorem State.muxSelAsyncEnd_errors (fam : Family) :
    (s.muxSelAsyncEnd fam).status.errors = s.status.errors := by
  obtain ⟨-, heq⟩ | ⟨-, -, heq⟩ | ⟨-, -, heq⟩ := s.muxSelAsyncEnd_cases fam <;> simp [heq]

end

/-! ### Each command's checks -/

section
variable (s : State)

theorem execRtdSetType_checked (probe : Coded ProbeType) : Checked (.rtdSetType probe) s (execRtdSetType probe s) := by
  unfold execRtdSetType
  split
  · split
    · exact .arg ‹_› rfl
    · exact .ifActive .rtd ‹_› rfl rfl (by simp)
  · exact .later (by simp)
  · exact .lost ‹_›

theorem execRtdSetThresh_checked : Checked .rtdSetThresh s (execRtdSetThresh s) := by
  unfold execRtdSetThresh
  split
  · exact .ifActive .rtd ‹_› rfl rfl (by simp)
  iterate 4 · exact .later (by simp)
  · exact .lost ‹_›

theorem execRtdSetAuto_checked (en : Bool) : Checked (.rtdSetAuto en) s (execRtdSetAuto en s) := by
  unfold execRtdSetAuto
  split
  · exact .ifActive .rtd ‹_› rfl rfl (by simp)
  · split
    · exact .later (s.waitThen_errors _ _ _ _ rfl)
    · exact .later rfl
  · exact .whenElapsed (by simp)
  · exact .lost ‹_›

theorem execRtdReadFault_checked (cycle : Coded FaultCycle) :
    Checked (.rtdReadFault cycle) s (execRtdReadFault cycle s) := by
  match cycle with
  | .unknown code =>
    rw [execRtdReadFault_unknown]
    split
    · exact .arg ‹_› rfl
    · exact .lost ‹_›
  | .known .none =>
    rw [execRtdReadFault_none]
    split
    · exact .ifActive .rtd ‹_› rfl rfl (by simp)
    · exact .later (by simp)
    · exact .lost ‹_›
  | .known .auto =>
    rw [execRtdReadFault_auto]
    split
    · exact .ifActive .rtd ‹_› rfl rfl (by simp [State.faultWrite])
    · exact .later ((State.waitThen_errors _ _ _ _ _ (by simp)).trans (by simp))
    · exact .whenElapsed (by simp)
    · exact .later (by simp)
    · exact .lost ‹_›
  | .known .manualRun =>
    rw [execRtdReadFault_manualRun]
    split
    · exact .ifActive .rtd ‹_› rfl rfl (by simp [State.faultWrite])
    · exact .later (by simp)
    · exact .lost ‹_›
  | .known .manualFinish =>
    rw [execRtdReadFault_manualFinish]
    split
    · exact .ifActive .rtd ‹_› rfl rfl (by simp [State.faultWrite])
    · exact .later (by simp)
    · exact .lost ‹_›

theorem execRtdRead_checked : Checked .rtdRead s (execRtdRead s) := by
  unfold execRtdRead
  split
  · exact .ifActive .rtd ‹_› rfl rfl (by simp)
  · split_ifs <;> exact .later (by simp)
  · exact .later (s.waitThen_errors _ _ _ _ (by simp))
  · exact .whenElapsed (by simp)
  · exact .later (s.waitThen_errors _ _ _ _ (by simp))
  · exact .whenElapsed (by simp)
  · split_ifs <;> exact .later (by simp)
  · exact .later (by simp)
  · exact .lost ‹_›

/-- The non-blocking reading passes the check in each of its phases (41_rtd_engine.md R84). -/
theorem execRtdReadAsync_checked : Checked .rtdReadAsync s (execRtdReadAsync s) := by
  have passed {t : State} (hactive : s.rtdActive = true) (h : t.status.errors = s.status.errors) :
      Checked .rtdReadAsync s (.next t) := .passed rfl (by simp [State.lacks, needs, hactive]) h
  unfold execRtdReadAsync
  split
  · split
    · split
      · exact passed ‹_› (by simp)
      · split <;> exact passed ‹_› (by simp)
      · split <;> exact passed ‹_› (by simp)
    · exact .inactive ‹_› rfl (by simp [State.lacks, needs, *])
  · split_ifs <;> exact .later (by simp)
  · exact .later (by simp)
  · exact .later (by simp)
  · split_ifs <;> exact .later (by simp)
  · exact .later (by simp)
  · exact .lost ‹_›

section
variable {i : Instr} {c : Coded Channel} {q : Coded ProbeType} {p : ProbeType} {fam : Family}

theorem badOperand_select (hi : i = .muxSel c (.known p) ∨ i = .muxSelAsync c (.known p)) :
    badOperand i = decide (familyOf p = none) := by
  obtain rfl | rfl := hi <;> cases p <;> rfl

theorem State.lacks_select (hi : i = .muxSel c (.known p) ∨ i = .muxSelAsync c (.known p))
    (hfam : familyOf p = some fam) : s.lacks i = !s.familyActive fam := by
  obtain rfl | rfl := hi <;> cases p <;> cases hfam <;> rfl

/-- The checks of R108 are those of the two tables, in the priority of R138. -/
theorem State.muxRequest_checks (hi : i = .muxSel c q ∨ i = .muxSelAsync c q) :
    (badOperand i = true ∧ s.muxRequest c q = .error .arg) ∨
    (badOperand i = false ∧ s.lacks i = true ∧ s.muxRequest c q = .error .inactive) ∨
    (badOperand i = false ∧ s.lacks i = false ∧ ∀ e, s.muxRequest c q ≠ .error e) := by
  match q with
  | .unknown code => exact .inl ⟨by obtain rfl | rfl := hi <;> rfl, rfl⟩
  | .known p =>
    have hbad := badOperand_select hi
    cases hfam : familyOf p with
    | none => exact .inl ⟨by simp [hbad, hfam], by simp [State.muxRequest, hfam]⟩
    | some fam =>
      have hgood : badOperand i = false := by simp [hbad, hfam]
      have hlacks := s.lacks_select hi hfam
      cases hactive : s.familyActive fam with
      | false => exact .inr (.inl ⟨hgood, by simp [hlacks, hactive], by simp [State.muxRequest, hfam, hactive]⟩)
      | true =>
        refine .inr (.inr ⟨hgood, by simp [hlacks, hactive], fun e => ?_⟩)
        simp only [State.muxRequest, hfam, hactive, if_true]
        split
        · nofun
        · split <;> nofun

variable {s} in
/-- An error of these checks is the one that is due. -/
theorem Checked.muxError {e : CmdError} (hi : i = .muxSel c q ∨ i = .muxSelAsync c q) (hseq : s.seq = .start)
    (hreq : s.muxRequest c q = .error e) : Checked i s (.next (s.fail e)) := by
  obtain ⟨hbad, harg⟩ | ⟨hgood, hlacks, hinactive⟩ | ⟨-, -, hno⟩ := s.muxRequest_checks hi
  · cases harg.symm.trans hreq; exact .arg hseq hbad
  · cases hinactive.symm.trans hreq; exact .inactive hseq hgood hlacks
  · exact absurd hreq (hno e)

variable {s} in
/-- Where they give none, none is due. -/
theorem Checked.muxPassed {t : State} (hi : i = .muxSel c q ∨ i = .muxSelAsync c q)
    (hreq : ∀ e, s.muxRequest c q ≠ .error e) (herrors : t.status.errors = s.status.errors) :
    Checked i s (.next t) := by
  obtain ⟨-, harg⟩ | ⟨-, -, hinactive⟩ | ⟨hgood, hhas, -⟩ := s.muxRequest_checks hi
  · exact absurd harg (hreq _)
  · exact absurd hinactive (hreq _)
  · exact .passed hgood hhas herrors

end

theorem execMuxSel_checked (channel : Coded Channel) (probe : Coded ProbeType) :
    Checked (.muxSel channel probe) s (execMuxSel channel probe s) := by
  unfold execMuxSel
  split
  · split
    · next hreq => exact .muxError (.inl rfl) ‹_› hreq
    · next hreq => exact .muxPassed (.inl rfl) (by simp [hreq]) (by simp)
    · next ch p fam hreq =>
      obtain ⟨rfl, -, heq⟩ | ⟨rfl, -, heq⟩ | ⟨-, heq⟩ := s.muxSetup_cases ch p fam <;> rw [heq] <;>
        exact .muxPassed (.inl rfl) (by simp [hreq]) (by simp)
  · split
    · exact .later (by simp)
    · exact .lost (by simp [*])
  · exact .whenElapsed (by simp)
  · exact .lost ‹_›

theorem execMuxSelAsync_checked (channel : Coded Channel) (probe : Coded ProbeType) :
    Checked (.muxSelAsync channel probe) s (execMuxSelAsync channel probe s) := by
  unfold execMuxSelAsync
  split
  · split
    · next hreq => exact .muxError (.inr rfl) ‹_› hreq
    · next hreq => exact .muxPassed (.inr rfl) (by simp [hreq]) (by simp)
    · next ch p fam hreq =>
      obtain ⟨rfl, -, heq⟩ | ⟨rfl, -, heq⟩ | ⟨-, heq⟩ := s.muxSetup_cases ch p fam <;> rw [heq] <;>
        exact .muxPassed (.inr rfl) (by simp [hreq]) (by simp)
  · split
    · exact .later (by simp)
    · exact .lost (by simp [*])
  · exact .lost ‹_›

theorem execBeginTc_checked : Checked .beginTc s (execBeginTc s) := by
  unfold execBeginTc
  split
  · split <;> exact .of_needs_none rfl rfl (by simp)
  · exact .later (by simp)
  · exact .lost ‹_›

theorem execBeginRtd_checked : Checked .beginRtd s (execBeginRtd s) := by
  unfold execBeginRtd
  split
  · split <;> exact .of_needs_none rfl rfl (by simp)
  iterate 7 · exact .later (by simp)
  · exact .lost ‹_›

theorem execBeginBoth_checked : Checked .beginBoth s (execBeginBoth s) := by
  unfold execBeginBoth
  split
  · split <;> exact .of_needs_none rfl rfl (by simp)
  iterate 8 · exact .later (by simp)
  · exact .lost ‹_›

/-- What the checks leave of every engine step, said once. -/
theorem exec_checked (i : Instr) : Checked i s (exec i s) := by
  cases i with
  | nop | tcSetFaultMask mask | tcGetLastFault | tcSetCjOffset | tcDecHot | tcDecCold | endTc | endRtd | endBoth
  | rtdCalcRes | rtdCalcTemp =>
    simp only [exec, execNop, execTcSetFaultMask, execTcGetLastFault, execTcSetCjOffset, execTcDecHot, execTcDecCold,
      execEndTc, execEndRtd, execEndBoth, execRtdCalcRes, execRtdCalcTemp]
    split
    · exact .of_needs_none rfl rfl (by simp)
    · exact .lost ‹_›
  | tcSetType coded | polyEval coded =>
    simp only [exec, execTcSetType, execPolyEval]
    split
    · split
      · exact .arg ‹_› rfl
      · exact .of_needs_none rfl rfl (by simp)
    · exact .lost ‹_›
  | spiRd8 chip addr | spiRd16 chip addr | spiWr8 chip addr value =>
    simp only [exec, execSpiRd8, execSpiRd16, execSpiWr8]
    split
    · exact .ifActive chip ‹_› rfl rfl (by simp)
    · exact .later (by simp)
    · exact .lost ‹_›
  | tcRd32 | tcReadVolt | tcReadTemp =>
    simp only [exec, execTcRd32, execTcReadVolt, execTcReadTemp]
    split
    · exact .ifActive .tc ‹_› rfl rfl (by simp)
    · exact .later (by simp)
    · exact .lost ‹_›
  | rtdGetLower | rtdGetUpper | rtdSet50Hz en | rtdSetBias en | rtdClearFault =>
    simp only [exec, execRtdGetLower, execRtdGetUpper, execRtdSet50Hz, execRtdSetBias, execRtdClearFault]
    split
    · exact .ifActive .rtd ‹_› rfl rfl (by simp)
    · exact .later (by simp)
    · exact .lost ‹_›
  | rtdSetType probe => exact execRtdSetType_checked s probe
  | rtdSetThresh => exact execRtdSetThresh_checked s
  | rtdSetAuto en => exact execRtdSetAuto_checked s en
  | rtdReadFault cycle => exact execRtdReadFault_checked s cycle
  | rtdRead => exact execRtdRead_checked s
  | rtdReadAsync => exact execRtdReadAsync_checked s
  | muxSel channel probe => exact execMuxSel_checked s channel probe
  | muxSelAsync channel probe => exact execMuxSelAsync_checked s channel probe
  | beginTc => exact execBeginTc_checked s
  | beginRtd => exact execBeginRtd_checked s
  | beginBoth => exact execBeginBoth_checked s

end

/-! ### The statements -/

section
variable {i : Instr} {s t : State} {o : Outcome}

theorem Checked.eq_fail_arg (h : Checked i s o) (hseq : s.seq = .start) (hbad : badOperand i = true) :
    o = .next (s.fail .arg) := by
  cases h with
  | arg => rfl
  | inactive _ hgood | passed hgood => simp [hbad] at hgood
  | later _ hlater | lost hlater => exact absurd hseq hlater

theorem Checked.eq_fail_inactive (h : Checked i s o) (hseq : s.seq = .start) (hgood : badOperand i = false)
    (hlacks : s.lacks i = true) : o = .next (s.fail .inactive) := by
  cases h with
  | arg _ hbad => simp [hgood] at hbad
  | inactive => rfl
  | passed _ hhas => simp [hlacks] at hhas
  | later _ hlater | lost hlater => exact absurd hseq hlater

theorem Checked.exists_next (h : Checked i s o) (hseq : s.seq = .start) (hgood : badOperand i = false)
    (hhas : s.lacks i = false) : ∃ t, o = .next t ∧ t.status.errors = s.status.errors := by
  cases h with
  | arg _ hbad => simp [hgood] at hbad
  | inactive _ _ hlacks => simp [hhas] at hlacks
  | passed _ _ herrors => exact ⟨_, rfl, herrors⟩
  | later _ hlater | lost hlater => exact absurd hseq hlater

theorem Checked.errors_of_later (h : Checked i s (.next t)) (hseq : s.seq ≠ .start) :
    t.status.errors = s.status.errors := by
  cases h with
  | arg hstart | inactive hstart => exact absurd hstart hseq
  | passed _ _ herrors | later herrors => exact herrors

theorem Status.errors_eq_iff {st st' : Status} :
    st.errors = st'.errors ↔
      st.errIllegal = st'.errIllegal ∧ st.errArg = st'.errArg ∧ st.errInactive = st'.errInactive := by
  simp [Status.errors]

end

/-- Settles O19, case by case of `Checked`. -/
theorem commandErrors : Obligations.CommandErrors := by
  refine ⟨fun i s hseq => ⟨fun hbad => ?_, fun hgood hlacks => ?_, fun hgood hhas => ?_⟩, fun i s t hseq h => ?_⟩
  · rw [(exec_checked s i).eq_fail_arg hseq hbad]
    simp [State.fail, Status.fail]
  · rw [(exec_checked s i).eq_fail_inactive hseq hgood hlacks]
    simp [State.fail, Status.fail]
  · obtain ⟨t, hnext, herrors⟩ := (exec_checked s i).exists_next hseq hgood hhas
    exact ⟨t, hnext, Status.errors_eq_iff.mp herrors⟩
  · have hchecked : Checked i s (.next t) := h ▸ exec_checked s i
    exact Status.errors_eq_iff.mp (hchecked.errors_of_later hseq)

/-! ### Channels that are not there (60_exceptions.md R144) -/

theorem State.muxRequest_eq_ignored {c : Coded Channel} {p : ProbeType} {fam : Family} {s : State}
    (hfam : familyOf p = some fam) (hactive : s.familyActive fam = true)
    (hch : ∀ ch, c = .known ch → s.params.nch ≤ channelCode ch) :
    s.muxRequest c (.known p) = .ignored := by
  cases c with
  | unknown code => simp [State.muxRequest, hfam, hactive]
  | known ch => simp [State.muxRequest, hfam, hactive, Nat.not_lt.mpr (hch ch rfl)]

/-- Settles O46: the checks answer `ignored`, and each command ends with its own `OK`. -/
theorem channelOutOfRangeIgnored : Obligations.ChannelOutOfRangeIgnored := by
  intro s c p fam hseq hfam hactive hch
  have hreq : s.muxRequest c (.known p) = .ignored :=
    State.muxRequest_eq_ignored hfam hactive (by rintro ch rfl; exact hch)
  constructor
  · simp only [exec, execMuxSel, hseq, hreq]; rfl
  · simp only [exec, execMuxSelAsync, hseq, hreq]; rfl

end Sys2Proof.Machine
end

section
open Sys2Proof Sys2Proof.Machine
namespace Sys2Proof.Machine

/-! ### Operands outside the domain (60_exceptions.md R143) -/

theorem Fp.gt_top (x : Fp) : Fp.gt x 0x7F800000#32 = false := by
  have hkey : Fp.key 0x7F800000#32 = 0x7F800000 := by decide
  cases hnan : x.isNaN with
  | true => exact (Fp.compare_nan (.inl hnan)).1
  | false =>
    have hle : x.magnitude ≤ 0x7F800000 := by simpa [Fp.isNaN] using hnan
    have : x.key ≤ 0x7F800000 := by unfold Fp.key; split_ifs <;> omega
    simp [Fp.gt, hkey, this]

theorem Fp.gt_zero_of_sign {x : Fp} (h : x.sign = true) : Fp.gt x 0x00000000#32 = false := by
  have hkey : Fp.key 0x00000000#32 = 0 := by decide
  have : x.key ≤ 0 := by simp [Fp.key, h]
  simp [Fp.gt, hkey, this]

/-- The lowest segment of every table of the default ROM has no coefficients, and its bound is finite (R122 to R128). -/
theorem default_table_lowest (tbl : TableId) :
    ∃ bound segs, Params.default.table tbl = ⟨bound, []⟩ :: segs ∧ Fp.gt bound 0xFF800000#32 = true := by
  cases tbl <;> exact ⟨_, _, rfl, by decide⟩

theorem polyEval_nan {v : Fp} (h : v.isNaN = true) (table : List Segment) : polyEval table v = 0x7FC00000#32 :=
  polyEvalTakesFirstSegment.2 table v fun _ _ => (Fp.compare_nan (.inr h)).1

theorem polyEval_top (table : List Segment) : polyEval table 0x7F800000#32 = 0x7FC00000#32 :=
  polyEvalTakesFirstSegment.2 table _ fun b _ => Fp.gt_top b.bound

theorem polyEval_default_bottom (tbl : TableId) :
    polyEval (Params.default.table tbl) 0xFF800000#32 = 0x7FC00000#32 := by
  obtain ⟨bound, segs, htable, hgt⟩ := default_table_lowest tbl
  rw [htable, polyEval_cons_of_gt hgt]
  rfl

theorem finitePositive_eq_false {x : Fp}
    (h : x.isNaN = true ∨ x.sign = true ∨ x = 0x00000000#32 ∨ x = 0x7F800000#32) : finitePositive x = false := by
  refine Bool.eq_false_iff.mpr fun hpos => ?_
  obtain ⟨hgt, hinf⟩ := finitePositive_iff.mp hpos
  obtain hnan | hsign | rfl | rfl := h
  · simp [(Fp.compare_nan (.inl hnan)).1] at hgt
  · simp [Fp.gt_zero_of_sign hsign] at hgt
  · exact absurd hgt (by decide)
  · exact hinf rfl

/-- Settles O55: no bound exceeds NaN or the upper infinity, the lowest segment takes the lower one, and no such
reference is finite and positive. -/
theorem domainErrorsGiveNaN : Obligations.DomainErrorsGiveNaN := by
  refine ⟨fun table v hnan => polyEval_nan hnan table, ?_, fun c raw x y hx => ?_, fun c p => ?_⟩
  · rintro tbl v (rfl | rfl)
    · exact polyEval_top _
    · exact polyEval_default_bottom tbl
  · have hpos := finitePositive_eq_false hx
    have hres : c.rtdRes raw x = 0x7FC00000#32 := Params.rtdRes_of_not_pos hpos
    exact ⟨hres, Params.rtdTemp_of_nan (by rw [hres]; decide), Params.rtdTemp_of_not_pos hpos⟩
  · cases p <;> simp [Params.fwdTable, Params.invTable, familyOf]

end Sys2Proof.Machine
end


section
open Sys2Proof Sys2Proof.Machine
namespace Sys2Proof.Machine

/-! ### The reset state (70_reset_and_hazards.md R154)

The elements are fields of `State.resetWith`; the views are words computed from them. -/

@[simp] theorem State.resetWith_status_word (c : Params) : (State.resetWith c).status.word = 0x00000002#32 := by
  simp [State.resetWith, Status.word]

/-- `REVERSE` is an input: its bit of the view is whatever level the board drives. -/
theorem State.resetWith_engstate (c : Params) :
    (State.resetWith c).engstate = if (State.resetWith c).reverse then 0x0010FF00#32 else 0x0000FF00#32 := by
  have hout : (State.resetWith c).outCfg = false := rfl
  unfold State.engstate
  simp only [State.pinSel, State.pinRoute, hout]
  cases (State.resetWith c).reverse <;> simp [State.resetWith, channelByte, rtdStateBits, muxStateBit]

@[simp] theorem State.resetWith_rtdstate (c : Params) : (State.resetWith c).rtdstate = 0#32 := by
  simp [State.resetWith, State.rtdstate, probeNibble, probeCode]

@[simp] theorem State.resetWith_cacheWord (c : Params) : (State.resetWith c).cacheWord = 0#32 := by
  simp [State.resetWith, State.cacheWord, probeNibble, probeCode]

/-- The mask is the one part of `TCSTATE` that the configuration gives (R154's value is the default mask's). -/
theorem State.resetWith_tcstate (c : Params) :
    (State.resetWith c).tcstate = 0#20 ++ c.tcFaultMaskReset ++ 0#4 ++ 0#4 := by
  simp [State.resetWith, State.tcstate, probeNibble, probeCode]

/-- Settles O13: the elements hold their values by definition of the reset state, the views by the words above. -/
theorem resetValues : Obligations.ResetValues := by
  refine ⟨fun c => ?_, rfl, rfl, rfl, State.resetWith_tcstate Params.default⟩
  exact ⟨rfl, rfl, State.resetWith_status_word c, rfl, rfl, rfl,
    rfl, rfl, rfl,
    rfl, rfl, rfl,
    rfl, rfl, rfl, rfl,
    rfl, rfl,
    rfl, rfl, rfl, rfl, rfl,
    rfl, rfl, rfl, rfl,
    rfl, rfl, rfl, rfl, rfl,
    State.resetWith_engstate c,
    State.resetWith_rtdstate c, State.resetWith_cacheWord c⟩

/-! ### The invariant at reset -/

/-- No channel is selected and no sub-driver is active (43_channel_mux.md R103, 44_lifecycle.md R112). -/
theorem State.resetWith_settled (c : Params) : (State.resetWith c).Settled :=
  ⟨⟨rfl, fun _ => ⟨rfl, rfl, rfl, rfl, rfl, rfl⟩⟩, rfl⟩

/-- `now` is a free draw, of which the low `TW` bits are taken (10_state.md R30). -/
theorem State.resetWith_now_lt (c : Params) : (State.resetWith c).now.toNat < 2 ^ c.tw := by
  change (BitVec.ofNat 32 (Config.nowAtReset.toNat % 2 ^ c.tw)).toNat < 2 ^ c.tw
  rw [BitVec.toNat_ofNat]
  exact (Nat.mod_le _ _).trans_lt (Nat.mod_lt _ (Nat.two_pow_pos _))

theorem State.resetWith_regsOk (c : Params) : (State.resetWith c).RegsOk where
  times := ⟨State.resetWith_now_lt c, Nat.two_pow_pos _, Nat.two_pow_pos _⟩
  mirror := BitVec.zero_and
  wire := by simp [State.wire3, hasBits, State.resetWith]
  chipSelects := ⟨Level.noConfusion, Level.noConfusion⟩

/-- Reset meets the invariant in every legal configuration. -/
theorem State.resetWith_inv {c : Params} (hwf : c.wf = true) : (State.resetWith c).Inv :=
  .of_settled (State.resetWith_settled c) (State.resetWith_regsOk c) hwf rfl rfl rfl

/-- The default configuration is a legal one (notes/assumptions/10.md). -/
theorem Params.default_wf : Params.default.wf = true := by decide

/-- Settles O58: reset meets the invariant in every legal configuration, and the default one is legal. -/
theorem resetMeetsInvariant : Obligations.ResetMeetsInvariant := by
  refine ⟨State.resetWith_inv Params.default_wf, ?_⟩
  and_intros <;> rfl

end Sys2Proof.Machine
end
